-- ==== Sys2Proof/Word.lean ====
section
/-! DEFINITION. Bytes, host register words and the six-byte meter address. -/

namespace Sys2Proof

/-- A byte, an unsigned integer 0..255 (R10). -/
abbrev Byte := BitVec 8

/-- A host register word (R37). -/
abbrev Word := BitVec 32

/-- Six bytes held in wire order: `b0` is next to the first `0x68` (R21). A byte string, compared
byte for byte and never as a number (R75 (c), R115). -/
structure Address where
  b0 : Byte
  b1 : Byte
  b2 : Byte
  b3 : Byte
  b4 : Byte
  b5 : Byte
  deriving DecidableEq, Repr

/-- The six bytes of an address in wire order. -/
def Address.bytes (a : Address) : List Byte := [a.b0, a.b1, a.b2, a.b3, a.b4, a.b5]

/-- The address made of the first six bytes of a list (missing bytes count as 0; every caller has six). -/
def Address.ofBytes (l : List Byte) : Address :=
  ⟨l.getD 0 0, l.getD 1 0, l.getD 2 0, l.getD 3 0, l.getD 4 0, l.getD 5 0⟩

/-- The same byte six times. -/
def Address.replicate (b : Byte) : Address := ⟨b, b, b, b, b, b⟩

end Sys2Proof
end

