-- ==== Sys2Proof/Config.lean ====
section
/-! DEFINITION. The constants of the block (R8, R9), the one open parameter `RX_DEPTH` (D6) and the
free values: opaque constants that nothing can evaluate. -/

namespace Sys2Proof.Config

/-- `LEAD_COUNT`: leading bytes prefixed to every encoded frame (R8). -/
def leadCount : Nat := 4
/-- `LEAD_BYTE` (R8). -/
def leadByte : Byte := 0xFE
/-- `START_BYTE`, twice in every header (R8). -/
def startByte : Byte := 0x68
/-- `END_BYTE` (R8). -/
def endByte : Byte := 0x16
/-- `XF_OFFSET` (R8). -/
def xfOffset : Byte := 0x33
/-- `HDR_SPAN`: minimal header span of the scanner (R8, R229). -/
def hdrSpan : Nat := 10
/-- `SCAN_SLEEP_MS`: ticks of one scanner sleep and of one body-wait increment (R8). -/
def scanSleep : Nat := 10
/-- `ADDR_DEFAULT` (R8, R21). -/
def addrDefault : Address := Address.replicate 0xAA
/-- `IBUF_SIZE` (R9). -/
def ibufSize : Nat := 512
/-- `OBUF_SIZE` (R9). -/
def obufSize : Nat := 271
/-- `PBUF_SIZE`, also the greatest payload of a write request (R9, R161). -/
def pbufSize : Nat := 243
/-- `VBUF_SIZE` (R9). -/
def vbufSize : Nat := 255
/-- `EVBUF_SIZE` (R9). -/
def evbufSize : Nat := 255
/-- `BCD_MAX_LEN` (R9, R266). -/
def bcdMaxLen : Nat := 8

/-- How far the transport's input buffer exceeds the 257 bytes of R9. OPEN in the spec (D6, U10):
no value can be proved of it. See assumption log 12. -/
opaque rxDepthAbove : Nat

/-- `RX_DEPTH`: the capacity of `RXQ`, an open parameter that is at least 257 (R9, D6). -/
def rxDepth : Nat := 257 + rxDepthAbove

/-- FREE VALUE: what a buffer byte that the rules call unspecified reads as (R73, R39, R291, U5), for
the move numbered by the first argument and the buffer offset given by the second. See assumption
logs 8, 10 and 11. -/
opaque freeByte : Nat → Nat → Byte

/-- FREE VALUE: what a register that the rules call unspecified holds or reads as (R33, R34, R291, U5),
for the move numbered by the first argument and the register offset given by the second. See
assumption logs 9 and 10. -/
opaque freeWord : Nat → Nat → Word

end Sys2Proof.Config
end

