-- ==== Sys2Proof/Syntax.lean ====
section
/-! DEFINITION. The instructions: one constructor per row of spec/opcode_table.json. The host commands
take their operands from registers and buffers, so they carry none; the rows of the wire carry the
fields that stand in the frame (R101, R113). -/

namespace Sys2Proof

/-- A wire frame, field by field (R100, R101). `wire` holds the data bytes as they are on the wire
(each one `add33` of its logical value); the length byte is their number; `tail` holds whatever
follows the checksum: the terminator first, when it is there. -/
structure WireFrame where
  lead     : List Byte
  addr     : Address
  ctrl     : Byte
  wire     : List Byte
  checksum : Byte
  tail     : List Byte
  deriving DecidableEq, Repr

/-- One constructor per row of the opcode table. -/
inductive Instr where
  /-- `CS_RESET`, opcode 0x01 (R141). -/
  | csReset
  /-- `CS_UPDATE`, opcode 0x02 (R142). -/
  | csUpdate
  /-- `CS_UPDATE_RANGE`, opcode 0x03 (R143). -/
  | csUpdateRange
  /-- `CS_VALUE`, opcode 0x04 (R144). -/
  | csValue
  /-- `XF_ADD33`, opcode 0x08 (R152). -/
  | xfAdd33
  /-- `XF_SUB33`, opcode 0x09 (R153). -/
  | xfSub33
  /-- `ENC_READ`, opcode 0x10 (R158). -/
  | encRead
  /-- `ENC_WRITE`, opcode 0x11 (R160). -/
  | encWrite
  /-- `DEC_FRAME`, opcode 0x12 (R170). -/
  | decFrame
  /-- `BCD_DECODE`, opcode 0x18 (R260). -/
  | bcdDecode
  /-- `TX_READ_ADDRESS`, opcode 0x20 (R207). -/
  | txReadAddress
  /-- `TX_READ_DATA`, opcode 0x21 (R208). -/
  | txReadData
  /-- `TX_WRITE_DATA`, opcode 0x22 (R209). -/
  | txWriteData
  /-- `EV_ACK`, opcode 0x30 (R244). -/
  | evAck
  /-- `CMD_ILLEGAL`: every other opcode (R121). -/
  | cmdIllegal (opcode : Byte)
  /-- `FRAME`: a frame on the wire (R101). -/
  | frame (f : WireFrame)
  /-- `REQ_READ_DATA`: control code 0x11 as produced by the encoder (R156). -/
  | reqReadData (addr : Address) (tag : Word)
  /-- `REQ_READ_DATA_CLEAR_ALARM`: control code 0x12 as produced by the encoder (R156). -/
  | reqReadDataClearAlarm (addr : Address) (tag : Word)
  /-- `REQ_READ_ADDRESS`: control code 0x13 as produced by the encoder (R156). -/
  | reqReadAddress (addr : Address)
  /-- `REQ_WRITE_DATA`: control code 0x14 as produced by the encoder (R157). -/
  | reqWriteData (addr : Address) (tag : Word) (password operator payload : List Byte)
  /-- `RSP_READ_ADDRESS`: base function 0x13, any direction, at the synchronous decoder (R182). -/
  | rspReadAddress (addr : Address) (ctrl : Byte) (data : List Byte)
  /-- `RSP_READ_DATA`: control code 0x91 (R183). -/
  | rspReadData (addr : Address) (data : List Byte)
  /-- `RSP_READ_DATA_ERROR`: control code 0xD1 (R183). -/
  | rspReadDataError (addr : Address) (data : List Byte)
  /-- `RSP_READ_DATA_OTHER_DIRECTION`: base function 0x11, direction neither 0x80 nor 0xC0 (R183). -/
  | rspReadDataOtherDirection (addr : Address) (ctrl : Byte) (data : List Byte)
  /-- `RSP_WRITE_ACK`: control code 0x94 (R184). -/
  | rspWriteAck (addr : Address) (data : List Byte)
  /-- `RSP_WRITE_ERROR`: control code 0xD4 (R184). -/
  | rspWriteError (addr : Address) (data : List Byte)
  /-- `RSP_WRITE_OTHER`: base function 0x14, neither 0x94 nor 0xD4 (R184). -/
  | rspWriteOther (addr : Address) (ctrl : Byte) (data : List Byte)
  /-- `RSP_UNKNOWN`: base function none of 0x11, 0x13, 0x14 (R179, R180). -/
  | rspUnknown (addr : Address) (ctrl : Byte) (data : List Byte)
  /-- `EVT_WRITE_REPLY`: control code 0x94 or 0xD4 at the scanner (R240). -/
  | evtWriteReply (addr : Address) (ctrl : Byte) (data : List Byte)
  /-- `EVT_TAGGED`: every other control code at the scanner (R240). -/
  | evtTagged (addr : Address) (ctrl : Byte) (data : List Byte)
  deriving DecidableEq, Repr

end Sys2Proof
end

