-- ==== Sys2Proof/WellFormed.lean ====
section
/-! DEFINITION. Which instructions an encoding can express: the side conditions of the opcode table's
rows, as one Bool. -/

namespace Sys2Proof

/-- The fourteen legal opcodes of `CMD` bits 7:0 (R120). -/
def legalOpcodes : List Byte :=
  [0x01, 0x02, 0x03, 0x04, 0x08, 0x09, 0x10, 0x11, 0x12, 0x18, 0x20, 0x21, 0x22, 0x30]

/-- A data field that the one length byte can count (R109). -/
def fitsLength (data : List Byte) : Bool := decide (data.length ≤ 255)

/-- `Instr.wf i`: the encoding tables can express `i`. -/
def Instr.wf : Instr → Bool
  | .csReset | .csUpdate | .csUpdateRange | .csValue | .xfAdd33 | .xfSub33 => true
  | .encRead | .encWrite | .decFrame | .bcdDecode => true
  | .txReadAddress | .txReadData | .txWriteData | .evAck => true
  | .cmdIllegal op => !legalOpcodes.contains op
  | .frame f => !f.lead.contains Config.startByte && fitsLength f.wire
  | .reqReadData _ _ | .reqReadDataClearAlarm _ _ | .reqReadAddress _ => true
  | .reqWriteData _ _ pw oper payload =>
      decide (pw.length = 4) && decide (oper.length = 4) && decide (payload.length ≤ Config.pbufSize)
  | .rspReadAddress _ c d => decide (c &&& 0x1F = 0x13) && fitsLength d
  | .rspReadData _ d | .rspReadDataError _ d | .rspWriteAck _ d | .rspWriteError _ d => fitsLength d
  | .rspReadDataOtherDirection _ c d =>
      decide (c &&& 0x1F = 0x11) && decide (c &&& 0xE0 ≠ 0x80) && decide (c &&& 0xE0 ≠ 0xC0) && fitsLength d
  | .rspWriteOther _ c d =>
      decide (c &&& 0x1F = 0x14) && decide (c ≠ 0x94) && decide (c ≠ 0xD4) && fitsLength d
  | .rspUnknown _ c d =>
      decide (c &&& 0x1F ≠ 0x11) && decide (c &&& 0x1F ≠ 0x13) && decide (c &&& 0x1F ≠ 0x14) && fitsLength d
  | .evtWriteReply _ c d => decide (c = 0x94 ∨ c = 0xD4) && fitsLength d
  | .evtTagged _ c d => decide (c ≠ 0x94) && decide (c ≠ 0xD4) && fitsLength d

end Sys2Proof
end

