-- ==== Sys2Proof/Decode.lean ====
section
/-! DEFINITION. The codec's pure functions (checksum, transform, frame layout), the decoder of the five
encoding spaces of the opcode table, and the encoder. -/

namespace Sys2Proof

/-! ## Checksum, transform, little-endian tags -/

/-- `checksum8(s)`: the sum of the bytes modulo 256, 0 for the empty sequence (R140). -/
def checksum8 : List Byte → Byte
  | [] => 0
  | b :: bs => b + checksum8 bs

/-- `add33(b) = (b + 0x33) mod 256` (R150). -/
def add33 (b : Byte) : Byte := b + Config.xfOffset

/-- `sub33(b) = (b − 0x33) mod 256` (R151). -/
def sub33 (b : Byte) : Byte := b - Config.xfOffset

/-- `le32(t)`: the four bytes of a tag, least significant first (R11, R110). -/
def le32 (t : Word) : List Byte :=
  [t.extractLsb' 0 8, t.extractLsb' 8 8, t.extractLsb' 16 8, t.extractLsb' 24 8]

/-- `from_le32(b)`: the tag whose first four bytes are given (R11, R110, R115); missing bytes count as
0 (every caller has four). -/
def fromLe32 (l : List Byte) : Word :=
  (l.getD 0 0).setWidth 32 ||| (l.getD 1 0).setWidth 32 <<< 8
    ||| (l.getD 2 0).setWidth 32 <<< 16 ||| (l.getD 3 0).setWidth 32 <<< 24

/-- The base function of a control code, `ctrl & 0x1F` (R105). -/
def baseOf (ctrl : Byte) : Byte := ctrl &&& 0x1F

/-- The direction bits of a control code, `ctrl & 0xE0`, compared as a masked byte (R105). -/
def dirOf (ctrl : Byte) : Byte := ctrl &&& 0xE0

/-! ## The frame layout -/

/-- The value of the length byte: how many data bytes there are (R109). -/
def WireFrame.len (f : WireFrame) : Byte := BitVec.ofNat 8 f.wire.length

/-- The bytes the checksum covers, from the first `0x68` through the end of the data, as they are on
the wire (R102). -/
def WireFrame.covered (f : WireFrame) : List Byte :=
  Config.startByte :: f.addr.bytes ++ [Config.startByte, f.ctrl, f.len] ++ f.wire

/-- The frame as a byte sequence in wire order (R100, R101). -/
def WireFrame.bytes (f : WireFrame) : List Byte :=
  f.lead ++ f.covered ++ f.checksum :: f.tail

/-- The checksum byte is the one the covered bytes give (R102, R175). -/
def WireFrame.sumGood (f : WireFrame) : Bool := decide (checksum8 f.covered = f.checksum)

/-- The logical data bytes: `sub33` of each byte on the wire (R103, R177). -/
def WireFrame.data (f : WireFrame) : List Byte := f.wire.map sub33

/-- The frame with the given leading bytes, its data transformed, its checksum taken over the covered
bytes after the transform, and the terminator (R155). -/
def WireFrame.build (lead : List Byte) (addr : Address) (ctrl : Byte) (data : List Byte) : WireFrame :=
  let f : WireFrame := ⟨lead, addr, ctrl, data.map add33, 0, [Config.endByte]⟩
  { f with checksum := checksum8 f.covered }

/-- The four leading bytes the encoder writes (R104, R155). -/
def leading : List Byte := List.replicate Config.leadCount Config.leadByte

/-- `frame(addr, ctrl, data)` (R155). -/
def frame (addr : Address) (ctrl : Byte) (data : List Byte) : List Byte :=
  (WireFrame.build leading addr ctrl data).bytes

/-- `encodeReadRequest(addr, funcCode, tag?)`: the master-query direction pattern is `0x00` (R156). -/
def encodeReadRequest (addr : Address) (func : Byte) (tag : Option Word) : List Byte :=
  frame addr (func ||| 0x00) (match tag with | none => [] | some t => le32 t)

/-- `encodeWriteRequest(addr, funcCode, password, operator, tag, payload)`; `none` is InvalidArgument
(R157, R161). -/
def encodeWriteRequest (addr : Address) (func : Byte) (password operator : List Byte) (tag : Word)
    (payload : List Byte) : Option (List Byte) :=
  if password.length ≠ 4 ∨ operator.length ≠ 4 then none
  else if payload.length > Config.pbufSize then none
  else some (frame addr (func ||| 0x00) (le32 tag ++ password ++ operator ++ payload))

/-! ## Taking a byte sequence apart -/

/-- Why a byte sequence is not an instruction of the space it is decoded in. -/
inductive DecodeError where
  /-- No `0x68` anywhere (R172). -/
  | noStartByte
  /-- No `0x68` seven bytes after the first, or the sequence ends before that offset (R173). -/
  | noSecondStart
  /-- The sequence ends before the control code, the length byte or the checksum byte (R174). -/
  | truncated
  /-- The checksum byte is not the sum of the covered bytes (R175). -/
  | badChecksum
  /-- A control code the encoder does not produce, or a data length its layout does not have (R113). -/
  | notARequest
  deriving DecidableEq, Repr

/-- The bytes before the first `0x68`, and those after it; `none` if there is no `0x68` (R172). -/
def splitStart : List Byte → Option (List Byte × List Byte)
  | [] => none
  | b :: bs =>
      if b = Config.startByte then some ([], bs)
      else match splitStart bs with
        | none => none
        | some (lead, rest) => some (b :: lead, rest)

/-- Steps 1 to 3 of the strict decoder up to the checksum comparison: find the first `0x68`, test the
second, read control code and length, and cut the sequence into fields (R114, R172 to R174, R176). -/
def parseFrame (raw : List Byte) : Except DecodeError WireFrame :=
  match splitStart raw with
  | none => .error .noStartByte
  | some (lead, a0 :: a1 :: a2 :: a3 :: a4 :: a5 :: t :: rest) =>
      if t ≠ Config.startByte then .error .noSecondStart
      else match rest with
        | c :: l :: body =>
            match body.drop l.toNat with
            | cs :: tail => .ok ⟨lead, ⟨a0, a1, a2, a3, a4, a5⟩, c, body.take l.toNat, cs, tail⟩
            | [] => .error .truncated
        | _ => .error .truncated
  | some _ => .error .noSecondStart

/-! ## The decoder -/

/-- What can be decoded: a word written to `CMD`, or a byte sequence met in one of the four wire spaces
of the opcode table. -/
inductive Code where
  /-- A word written to `CMD`; the opcode is bits 7:0 (R28, R120). -/
  | command (v : Word)
  /-- A byte sequence taken as a frame, nothing more (R101). -/
  | wire (raw : List Byte)
  /-- A frame as the encoder produces it (R156, R157). -/
  | request (raw : List Byte)
  /-- A frame at the dispatch of the synchronous decoder (R178). -/
  | reply (raw : List Byte)
  /-- A frame at the classification of the scanner (R240). -/
  | event (raw : List Byte)
  deriving DecidableEq, Repr

/-- The command of a word written to `CMD`: bits 31:8 are ignored, every value is some row (R120, R121). -/
def decodeCommand (v : Word) : Instr :=
  let op : Byte := v.extractLsb' 0 8
  if op = 0x01 then .csReset
  else if op = 0x02 then .csUpdate
  else if op = 0x03 then .csUpdateRange
  else if op = 0x04 then .csValue
  else if op = 0x08 then .xfAdd33
  else if op = 0x09 then .xfSub33
  else if op = 0x10 then .encRead
  else if op = 0x11 then .encWrite
  else if op = 0x12 then .decFrame
  else if op = 0x18 then .bcdDecode
  else if op = 0x20 then .txReadAddress
  else if op = 0x21 then .txReadData
  else if op = 0x22 then .txWriteData
  else if op = 0x30 then .evAck
  else .cmdIllegal op

/-- The request a frame of the encoder is, by its control code and the data layout of R113. -/
def requestOf (f : WireFrame) : Except DecodeError Instr :=
  let d := f.data
  if f.ctrl = 0x11 ∧ d.length = 4 then .ok (.reqReadData f.addr (fromLe32 d))
  else if f.ctrl = 0x12 ∧ d.length = 4 then .ok (.reqReadDataClearAlarm f.addr (fromLe32 d))
  else if f.ctrl = 0x13 ∧ d.length = 0 then .ok (.reqReadAddress f.addr)
  else if f.ctrl = 0x14 ∧ 12 ≤ d.length then
    .ok (.reqWriteData f.addr (fromLe32 d) ((d.drop 4).take 4) ((d.drop 8).take 4) (d.drop 12))
  else .error .notARequest

/-- The class of a control code at the synchronous decoder: three arms by base function, the rest
unknown (R178 to R184). -/
def replyOf (addr : Address) (c : Byte) (d : List Byte) : Instr :=
  if baseOf c = 0x13 then .rspReadAddress addr c d
  else if baseOf c = 0x11 then
    if c = 0x91 then .rspReadData addr d
    else if c = 0xD1 then .rspReadDataError addr d
    else .rspReadDataOtherDirection addr c d
  else if baseOf c = 0x14 then
    if c = 0x94 then .rspWriteAck addr d
    else if c = 0xD4 then .rspWriteError addr d
    else .rspWriteOther addr c d
  else .rspUnknown addr c d

/-- The class of a control code at the scanner (R240). -/
def eventOf (addr : Address) (c : Byte) (d : List Byte) : Instr :=
  if c = 0x94 ∨ c = 0xD4 then .evtWriteReply addr c d else .evtTagged addr c d

/-- A frame whose checksum is right (R175), or the error. -/
def checkSum (f : WireFrame) : Except DecodeError WireFrame :=
  if f.sumGood then .ok f else .error .badChecksum

/-- The decoder: total, and rejecting by name. The scanner's checksum is advisory, so `event` does not
test it (R236). -/
def decode : Code → Except DecodeError Instr
  | .command v => .ok (decodeCommand v)
  | .wire raw => (parseFrame raw).map .frame
  | .request raw => (parseFrame raw).bind fun f => (checkSum f).bind requestOf
  | .reply raw => (parseFrame raw).bind fun f => (checkSum f).map fun f => replyOf f.addr f.ctrl f.data
  | .event raw => (parseFrame raw).map fun f => eventOf f.addr f.ctrl f.data

/-! ## The encoder -/

/-- A frame as a meter sends it: no leading bytes, its data transformed, checksum and terminator right. -/
def meterFrame (addr : Address) (ctrl : Byte) (data : List Byte) : List Byte :=
  (WireFrame.build [] addr ctrl data).bytes

/-- The encoding of an instruction, from the tables of R101, R113 and R120. -/
def encode : Instr → Code
  | .csReset => .command 0x01
  | .csUpdate => .command 0x02
  | .csUpdateRange => .command 0x03
  | .csValue => .command 0x04
  | .xfAdd33 => .command 0x08
  | .xfSub33 => .command 0x09
  | .encRead => .command 0x10
  | .encWrite => .command 0x11
  | .decFrame => .command 0x12
  | .bcdDecode => .command 0x18
  | .txReadAddress => .command 0x20
  | .txReadData => .command 0x21
  | .txWriteData => .command 0x22
  | .evAck => .command 0x30
  | .cmdIllegal op => .command (op.setWidth 32)
  | .frame f => .wire f.bytes
  | .reqReadData a t => .request (encodeReadRequest a 0x11 (some t))
  | .reqReadDataClearAlarm a t => .request (encodeReadRequest a 0x12 (some t))
  | .reqReadAddress a => .request (encodeReadRequest a 0x13 none)
  | .reqWriteData a t pw oper p => .request ((encodeWriteRequest a 0x14 pw oper t p).getD [])
  | .rspReadAddress a c d => .reply (meterFrame a c d)
  | .rspReadData a d => .reply (meterFrame a 0x91 d)
  | .rspReadDataError a d => .reply (meterFrame a 0xD1 d)
  | .rspReadDataOtherDirection a c d => .reply (meterFrame a c d)
  | .rspWriteAck a d => .reply (meterFrame a 0x94 d)
  | .rspWriteError a d => .reply (meterFrame a 0xD4 d)
  | .rspWriteOther a c d => .reply (meterFrame a c d)
  | .rspUnknown a c d => .reply (meterFrame a c d)
  | .evtWriteReply a c d => .event (meterFrame a c d)
  | .evtTagged a c d => .event (meterFrame a c d)

/-! ## The opcode table's words -/

/-- The address of six zero bytes: the operand bytes that a table word leaves out are zeros. -/
def zeroAddress : Address := Address.replicate 0

/-- The encoding space in which a table word of one byte is read, and the instruction's words there,
every operand byte that the table gives no bits being zero. The numbers of the table's spaces overlap,
so an order is needed (assumption log 3): a legal opcode is a command; then the request codes 0x13 and
0x14; then a control code with a decode arm is a reply; every other value is a word written to `CMD`. -/
def codeOfByte (b : Byte) : Code :=
  if legalOpcodes.contains b then .command (b.setWidth 32)
  else if b = 0x13 then .request (encodeReadRequest zeroAddress b none)
  else if b = 0x14 then
    .request (frame zeroAddress b (List.replicate 12 0))
  else if baseOf b = 0x11 ∨ baseOf b = 0x13 ∨ baseOf b = 0x14 then .reply (meterFrame zeroAddress b [])
  else .command (b.setWidth 32)

/-- The instruction the decoder reads from a word of the opcode table: bits 7:0 are the opcode or the
control code, every row of the table having at most eight bits (`nbits` adds nothing). -/
def decodeTableWord (_nbits w : Nat) : Option Instr :=
  match decode (codeOfByte (BitVec.ofNat 8 w)) with
  | .ok i => some i
  | .error _ => none

end Sys2Proof
end

