-- ==== Sys2Proof/Machine/State.lean ====
section
/-! DEFINITION. The state of the block (R20), the transport's two queues (R76), and the model's own
list of moves; the reasons a step can stop; the state after reset (R39). -/

namespace Sys2Proof.Machine

/-- The reasons the machine can stop with a fault. -/
inductive Fault where
  /-- Raised by `RxRead` on an empty `RXQ`. R78 requires a non-empty queue and says that the block never
  calls it otherwise, so no step of the machine raises it. Safe: a stop where the spec says nothing. -/
  | rxUnderflow
  deriving DecidableEq, Repr

/-- The reasons an instruction can have no meaning. -/
inductive Refusal where
  /-- Raised by an arm of `exec` whose instruction has no meaning yet; no arm does. Safe. -/
  | notModelled (mnemonic : String)
  deriving DecidableEq, Repr

/-- The status codes of a completed command (R275). The codes 0xD to 0xF are never produced (R275). -/
inductive Status where
  | ok
  | framingError
  | checksumError
  | addressMismatchError
  | functionMismatchError
  | replyErrorIndicated
  | lengthOutOfRange
  | timeoutError
  | invalidArgument
  | unknownFunction
  | busy
  | illegalCommand
  | rangeError
  deriving DecidableEq, Repr

/-- `TXS`, the state of the TransactionEngine machine (R23). -/
inductive TxState where
  | idle
  | wait
  deriving DecidableEq, Repr

/-- `T_OP`, the operation of the transaction in flight (R35). -/
inductive TxOp where
  | readAddress
  | readData
  | writeData
  deriving DecidableEq, Repr

/-- `SCS`, the state of the scanner machine (R23). -/
inductive ScanState where
  | off
  | sleep
  | waitBody
  | dispatch
  deriving DecidableEq, Repr

/-- `PEND`, the pending request (R22). -/
structure PendingRequest where
  func  : Byte
  tag   : Word
  valid : Bool
  deriving DecidableEq, Repr

/-- The transaction machine: `TXS` (R23) and its hidden registers (R35). -/
structure TxMachine where
  txs     : TxState
  op      : TxOp
  elapsed : BitVec 17
  cnt     : BitVec 16
  deriving DecidableEq, Repr

/-- The scanner machine: `SCS` (R23) and its hidden registers (R36). -/
structure Scanner where
  scs  : ScanState
  cnt  : BitVec 4
  addr : Address
  ctrl : Byte
  len  : Byte
  deriving DecidableEq, Repr

/-- `CTRL` (R25). -/
structure Control where
  scanEn     : Bool
  listenerEn : Bool
  deriving DecidableEq, Repr

/-- The stored bits of `STATUS`: the completion flag and the three sticky diagnostics (R26, R27). The
other bits of `STATUS` are views of `TXS`, `SCS` and `PEND.VALID`. -/
structure StatusFlags where
  rspValid : Bool
  csWarn   : Bool
  frameErr : Bool
  cmdRej   : Bool
  deriving DecidableEq, Repr

/-- The operand registers, field by field: bits not listed read 0 and ignore writes (R30). -/
structure OperandRegs where
  func     : Byte
  hasTag   : Bool
  tag      : Word
  pw       : Word
  oper     : Word
  pwLen    : Byte
  operLen  : Byte
  plen     : Byte
  addrLo   : Word
  addrHi   : BitVec 16
  start    : BitVec 16
  rangeLen : BitVec 9
  bufSel   : BitVec 2
  dp       : BitVec 4
  byte     : Byte
  deriving DecidableEq, Repr

/-- The timing configuration registers (R31). -/
structure ConfigRegs where
  timeoutMs : BitVec 16
  pollMs    : BitVec 16
  expRdAddr : Byte
  expRdData : Byte
  expWrite  : Byte
  deriving DecidableEq, Repr

/-- The result registers (R29) and the BCD result pair (R40). -/
structure ResultRegs where
  status : Status
  ctrl   : Byte
  len    : Byte
  tag    : Word
  val    : Byte
  mant   : BitVec 64
  dp     : BitVec 4
  deriving DecidableEq, Repr

/-- The event registers (R34). -/
structure EventRegs where
  func : Byte
  tag  : Word
  len  : Byte
  deriving DecidableEq, Repr

/-- One atomic step of an agent outside the block (R86, R124). -/
inductive Move where
  /-- `WR`: the Host writes a 32-bit value at a register offset. -/
  | regWrite (off : Nat) (v : Word)
  /-- `RD`: the Host reads the register at an offset. -/
  | regRead (off : Nat)
  /-- `WB`: the Host writes a byte at a buffer offset. -/
  | bufWrite (off : Nat) (b : Byte)
  /-- `RB`: the Host reads the byte at a buffer offset. -/
  | bufRead (off : Nat)
  /-- `RX`: the Transport receives one byte from the line. -/
  | rxByte (b : Byte)
  /-- `TICK`: one event of the Timebase. -/
  | tick
  /-- The reset input (R310). -/
  | reset
  deriving DecidableEq, Repr

/-- The host buffer space: the listed bytes by offset, offsets strictly rising. A byte that is not
listed holds an unspecified value (R39, R73). -/
abbrev Memory := List Host.Cell

/-- The machine. `rxq` and `txOut` are the Transport's (R76); `moves`, `hostData` and `free` are the
model's own (assumption logs 1, 8 and 14). -/
structure State where
  /-- `ADDR` (R21). -/
  addr    : Address
  /-- `PEND` (R22). -/
  pend    : PendingRequest
  /-- `ACC` (R24). -/
  acc     : Byte
  /-- `TXS` and the transaction's hidden registers (R23, R35). -/
  tx      : TxMachine
  /-- `SCS` and the scanner's hidden registers (R23, R36). -/
  sc      : Scanner
  /-- `CTRL` (R25). -/
  ctrl    : Control
  /-- The stored bits of `STATUS` (R26). -/
  flags   : StatusFlags
  /-- The operand registers (R30). -/
  op      : OperandRegs
  /-- `TIMEOUT_MS`, `POLL_MS`, `EXPLEN` (R31). -/
  cfg     : ConfigRegs
  /-- `IBUF_LEN` (R32). -/
  ibufLen : BitVec 10
  /-- `OBUF_LEN` (R32). -/
  obufLen : BitVec 9
  /-- The result registers (R29, R40). -/
  res     : ResultRegs
  /-- The event registers (R34). -/
  ev      : EventRegs
  /-- The five buffers (R71). -/
  mem     : Memory
  /-- `RXQ`, oldest byte first (R76). -/
  rxq     : List Byte
  /-- `TXS_OUT`, every byte handed to the transport (R76). -/
  txOut   : List Byte
  /-- The agents' moves not yet taken, the next one first. -/
  moves   : List Move
  /-- What the Host's last read returned. -/
  hostData : Word
  /-- The number of moves taken: it seeds the free values. -/
  free    : Nat
  deriving DecidableEq, Repr

/-- The state right after reset (R37, R39): the spec's values; no buffer byte specified; the
transport's queues and the list of moves empty. -/
def State.reset : State where
  addr    := Config.addrDefault
  pend    := ⟨0, 0, false⟩
  acc     := 0
  tx      := ⟨.idle, .readAddress, 0, 0⟩
  sc      := ⟨.off, 0, Address.replicate 0, 0, 0⟩
  ctrl    := ⟨false, false⟩
  flags   := ⟨false, false, false, false⟩
  op      := ⟨0, false, 0, 0, 0, 0, 0, 0, 0, 0, 0, 0, 0, 0, 0⟩
  cfg     := ⟨500, 100, 18, 18, 12⟩
  ibufLen := 0
  obufLen := 0
  res     := ⟨.ok, 0, 0, 0, 0, 0, 0⟩
  ev      := ⟨0, 0, 0⟩
  mem     := []
  rxq     := []
  txOut   := []
  moves   := []
  hostData := 0
  free    := 0

end Sys2Proof.Machine
end

