-- ==== Sys2Proof/Machine/Flags.lean ====
section
/-! DEFINITION. The status register: its computed bits, its three sticky diagnostics and the numeric
codes of statuses and states. The block has no arithmetic flags (R142, R269). -/

namespace Sys2Proof.Machine

/-- The numeric status code (R275). -/
def Status.code : Status → BitVec 4
  | .ok => 0x0 | .framingError => 0x1 | .checksumError => 0x2 | .addressMismatchError => 0x3
  | .functionMismatchError => 0x4 | .replyErrorIndicated => 0x5 | .lengthOutOfRange => 0x6
  | .timeoutError => 0x7 | .invalidArgument => 0x8 | .unknownFunction => 0x9
  | .busy => 0xA | .illegalCommand => 0xB | .rangeError => 0xC

/-- The numeric value of `TXS` (R23). -/
def TxState.code : TxState → BitVec 2
  | .idle => 0 | .wait => 1

/-- The numeric value of `SCS` (R23). -/
def ScanState.code : ScanState → BitVec 2
  | .off => 0 | .sleep => 1 | .waitBody => 2 | .dispatch => 3

/-- `STATUS.BUSY`: a transaction is in flight (R26). -/
def State.busy (s : State) : Bool := decide (s.tx.txs = .wait)

/-- `STATUS.SCAN_ACTIVE` (R26). -/
def State.scanActive (s : State) : Bool := decide (s.sc.scs ≠ .off)

/-- `STATUS.EV_VALID` (R26). -/
def State.evValid (s : State) : Bool := decide (s.sc.scs = .dispatch)

/-- One bit of `STATUS` in place. -/
def bitAt (n : Nat) (b : Bool) : Word := if b then 1#32 <<< n else 0

/-- The value of `STATUS` (R26). -/
def State.statusWord (s : State) : Word :=
  bitAt 0 s.busy ||| bitAt 1 s.flags.rspValid ||| bitAt 2 s.scanActive ||| bitAt 3 s.evValid
    ||| bitAt 4 s.flags.csWarn ||| bitAt 5 s.flags.frameErr ||| bitAt 6 s.flags.cmdRej
    ||| bitAt 7 s.pend.valid
    ||| s.tx.txs.code.setWidth 32 <<< 8 ||| s.sc.scs.code.setWidth 32 <<< 10

/-- A checksum mismatch on the asynchronous path (R27, R236). -/
def State.setCsWarn (s : State) : State := { s with flags := { s.flags with csWarn := true } }

/-- A swallowed per-frame decode failure (R27, R233, R239). -/
def State.setFrameErr (s : State) : State := { s with flags := { s.flags with frameErr := true } }

/-- A host write ignored by rule R25, R28 or R33 (R27). -/
def State.setCmdRej (s : State) : State := { s with flags := { s.flags with cmdRej := true } }

/-- A host write to `STATUS`: each of bits 4, 5, 6 that is written 1 is cleared, nothing else (R26). -/
def State.clearSticky (s : State) (v : Word) : State :=
  { s with flags := { s.flags with
      csWarn := s.flags.csWarn && !v.getLsbD 4
      frameErr := s.flags.frameErr && !v.getLsbD 5
      cmdRej := s.flags.cmdRej && !v.getLsbD 6 } }

end Sys2Proof.Machine
end

