-- ==== Sys2Proof/Machine/Layout.lean ====
section
/-! DEFINITION. The register map (R37) and the buffer map (R71) of the host interface. -/

namespace Sys2Proof.Machine

/-- The host registers (R37). -/
inductive Reg where
  | ctrl | status | cmd
  | resStatus | resCtrl | resLen | resTag | resVal | resMantLo | resMantHi | resDp
  | acc | addrLo | addrHi | pendFunc | pendTag
  | opFunc | opTag | opPw | opOper | opLens | opAddrLo | opAddrHi | opRange | opDp | opByte
  | ibufLen | obufLen | timeoutMs | pollMs | explen
  | evFunc | evTag | evLen
  deriving DecidableEq, Repr

/-- The byte offset of a register (R37). -/
def Reg.offset : Reg → Nat
  | .ctrl => 0x00 | .status => 0x04 | .cmd => 0x08
  | .resStatus => 0x0C | .resCtrl => 0x10 | .resLen => 0x14 | .resTag => 0x18 | .resVal => 0x1C
  | .resMantLo => 0x20 | .resMantHi => 0x24 | .resDp => 0x28
  | .acc => 0x2C | .addrLo => 0x30 | .addrHi => 0x34 | .pendFunc => 0x38 | .pendTag => 0x3C
  | .opFunc => 0x40 | .opTag => 0x44 | .opPw => 0x48 | .opOper => 0x4C | .opLens => 0x50
  | .opAddrLo => 0x54 | .opAddrHi => 0x58 | .opRange => 0x5C | .opDp => 0x60 | .opByte => 0x64
  | .ibufLen => 0x68 | .obufLen => 0x6C | .timeoutMs => 0x70 | .pollMs => 0x74 | .explen => 0x78
  | .evFunc => 0x80 | .evTag => 0x84 | .evLen => 0x88

/-- Every register once. -/
def allRegs : List Reg :=
  [.ctrl, .status, .cmd, .resStatus, .resCtrl, .resLen, .resTag, .resVal, .resMantLo, .resMantHi,
   .resDp, .acc, .addrLo, .addrHi, .pendFunc, .pendTag, .opFunc, .opTag, .opPw, .opOper, .opLens,
   .opAddrLo, .opAddrHi, .opRange, .opDp, .opByte, .ibufLen, .obufLen, .timeoutMs, .pollMs, .explen,
   .evFunc, .evTag, .evLen]

/-- The register at an offset; `none` where the offset is unmapped (R37, R38). -/
def regAt (off : Nat) : Option Reg := allRegs.find? fun r => r.offset == off

/-- Registers whose value is unspecified to the Host while `BUSY` (R33). -/
def Reg.unspecifiedWhileBusy : Reg → Bool
  | .resStatus | .resCtrl | .resLen | .resTag | .resVal | .resMantLo | .resMantHi | .resDp => true
  | .ibufLen | .obufLen => true
  | .ctrl | .status | .cmd | .acc | .addrLo | .addrHi | .pendFunc | .pendTag => false
  | .opFunc | .opTag | .opPw | .opOper | .opLens | .opAddrLo | .opAddrHi | .opRange => false
  | .opDp | .opByte | .timeoutMs | .pollMs | .explen | .evFunc | .evTag | .evLen => false

/-- The five buffers (R71). -/
inductive Buf where
  | ibuf | obuf | pbuf | vbuf | evbuf
  deriving DecidableEq, Repr

/-- The first offset of a buffer (R71). -/
def Buf.base : Buf → Nat
  | .ibuf => 0x1000 | .obuf => 0x1200 | .pbuf => 0x1400 | .vbuf => 0x1500 | .evbuf => 0x1600

/-- The capacity of a buffer (R71, R9). -/
def Buf.size : Buf → Nat
  | .ibuf => Config.ibufSize | .obuf => Config.obufSize | .pbuf => Config.pbufSize
  | .vbuf => Config.vbufSize | .evbuf => Config.evbufSize

/-- An offset lies inside a buffer. -/
def Buf.holds (b : Buf) (off : Nat) : Bool := decide (b.base ≤ off ∧ off < b.base + b.size)

/-- The buffer at an offset; `none` where the offset is unmapped (R71, R74). -/
def bufAt (off : Nat) : Option Buf :=
  [Buf.ibuf, .obuf, .pbuf, .vbuf, .evbuf].find? fun b => b.holds off

/-- Buffers the Host may write (R71). -/
def Buf.hostWritable : Buf → Bool
  | .ibuf | .pbuf => true
  | .obuf | .vbuf | .evbuf => false

/-- Buffers whose bytes are unspecified to the Host while `BUSY` (R33). -/
def Buf.unspecifiedWhileBusy : Buf → Bool
  | .ibuf | .obuf | .vbuf => true
  | .pbuf | .evbuf => false

end Sys2Proof.Machine
end

