-- ==== Sys2Proof/Machine/Ops.lean ====
section
/-! DEFINITION. The named operations: the buffers, the transport port, the completion of a command
(the block's one form of taking and leaving an exception, R290, R291, R295, R296), and the hand-over
of a scanner event. -/

namespace Sys2Proof.Machine

/-! ## The buffers -/

/-- The listed byte at an offset. -/
def Memory.lookup : Memory → Nat → Option Byte
  | [], _ => none
  | (k, b) :: m, a => if k = a then some b else Memory.lookup m a

/-- The memory with one byte stored, offsets kept strictly rising. -/
def Memory.store : Memory → Nat → Byte → Memory
  | [], a, b => [(a, b)]
  | (k, c) :: m, a, b =>
      if a < k then (a, b) :: (k, c) :: m
      else if a = k then (a, b) :: m
      else (k, c) :: Memory.store m a b

/-- The memory with a byte sequence stored from an offset upward. -/
def Memory.storeList (m : Memory) (a : Nat) : List Byte → Memory
  | [] => m
  | b :: bs => Memory.storeList (Memory.store m a b) (a + 1) bs

/-- The memory in which the `n` bytes from `a` upward have become unspecified. -/
def Memory.forget (m : Memory) (a n : Nat) : Memory :=
  m.filter fun c => !(decide (a ≤ c.1) && decide (c.1 < a + n))

/-- The canonical form: offsets strictly rising (an unlisted byte reads as no value, so no listed one
can equal it). -/
def Memory.wf : Memory → Bool
  | [] => true
  | [_] => true
  | c :: d :: m => decide (c.1 < d.1) && Memory.wf (d :: m)

/-- What a byte that is not listed reads as: a free value of this move and this offset (R39, R73, U5). -/
def State.unlistedByte (s : State) (off : Nat) : Byte := Config.freeByte s.free off

/-- The byte held at a buffer offset. -/
def State.byteAt (s : State) (off : Nat) : Byte := (s.mem.lookup off).getD (s.unlistedByte off)

/-- `n` bytes from an offset upward. -/
def State.bytesAt (s : State) (off : Nat) : Nat → List Byte
  | 0 => []
  | n + 1 => s.byteAt off :: s.bytesAt (off + 1) n

/-- `MemRead(SPACE, a, n)` (R12). -/
def State.memRead (s : State) (b : Buf) (a n : Nat) : List Byte := s.bytesAt (b.base + a) n

/-- `MemWrite(SPACE, a, n, v)` (R12). -/
def State.memWrite (s : State) (b : Buf) (a : Nat) (v : List Byte) : State :=
  { s with mem := s.mem.storeList (b.base + a) v }

/-- The contents of a buffer have become unspecified (R291, R34). -/
def State.forgetBuf (s : State) (b : Buf) : State :=
  { s with mem := s.mem.forget b.base b.size }

/-- The number of valid bytes of a buffer (R71, R73). -/
def State.validLen (s : State) : Buf → Nat
  | .ibuf => s.ibufLen.toNat
  | .obuf => s.obufLen.toNat
  | .pbuf => s.op.plen.toNat
  | .vbuf => s.res.len.toNat
  | .evbuf => if s.evValid then s.ev.len.toNat else 0

/-- An encoded frame put into OBUF, with its length (R158, R160, R199). -/
def State.writeObuf (s : State) (f : List Byte) : State :=
  { s.memWrite .obuf 0 f with obufLen := BitVec.ofNat 9 f.length }

/-! ## The transport port -/

/-- `RxAvail()`: a 16-bit number, saturating at 65535 (R77). -/
def State.rxAvail (s : State) : Nat := min s.rxq.length 65535

/-- `RxRead()`: removes the oldest byte and returns it; it requires a non-empty queue (R78). -/
def State.rxRead (s : State) : Except Fault (Byte × State) :=
  match s.rxq with
  | [] => .error .rxUnderflow
  | b :: q => .ok (b, { s with rxq := q })

/-- `n` calls of `RxRead()` in one atomic step (R83). -/
def State.rxReads (s : State) : Nat → Except Fault (List Byte × State)
  | 0 => .ok ([], s)
  | n + 1 =>
      match s.rxRead with
      | .error e => .error e
      | .ok (b, t) =>
          match t.rxReads n with
          | .error e => .error e
          | .ok (bs, u) => .ok (b :: bs, u)

/-- `RxClear()`: the flush (R79). -/
def State.rxClear (s : State) : State := { s with rxq := [] }

/-- `TxWrite(s)`: one atomic append (R80). -/
def State.txWrite (s : State) (bs : List Byte) : State := { s with txOut := s.txOut ++ bs }

/-- A byte arrives from the line; at a full queue it is dropped (R81, assumption log 12). -/
def State.rxArrive (s : State) (b : Byte) : State :=
  if s.rxq.length < Config.rxDepth then { s with rxq := s.rxq ++ [b] } else s

/-! ## Completion: what stands in for taking an exception -/

/-- `post(status)`: the completion of a command (R290). -/
def State.post (s : State) (st : Status) : State :=
  { s with res := { s.res with status := st }, flags := { s.flags with rspValid := true } }

/-- What a failed decode leaves of the result: `RES_LEN` is 0; `RES_CTRL`, `RES_TAG` and the contents of
VBUF are unspecified, so they take free values (R291, assumption log 9). -/
def State.resultLost (s : State) : State :=
  { s.forgetBuf .vbuf with
    res := { s.res with
      len := 0
      ctrl := (Config.freeWord s.free Reg.resCtrl.offset).setWidth 8
      tag := Config.freeWord s.free Reg.resTag.offset } }

/-- The encoder failed: OBUF holds nothing valid and its contents are unspecified (R160, R210, R291). -/
def State.obufLost (s : State) : State := { s.forgetBuf .obuf with obufLen := 0 }

/-- What the strict decoder returns (R182 to R184). -/
inductive Decoded where
  /-- The meter's address; it is also what `ADDR` becomes (R182). -/
  | addressReply (ctrl : Byte) (a : Address)
  /-- The echoed tag and the raw measurement (R183). -/
  | dataReply (ctrl : Byte) (tag : Word) (value : List Byte)
  /-- An acknowledge or a write error, with its payload (R184). -/
  | writeReply (ctrl : Byte) (payload : List Byte)
  deriving DecidableEq, Repr

/-- The result registers of a successful decode (R188), and the address store's update (R182). -/
def State.writeDecoded (s : State) : Decoded → State
  | .addressReply c a =>
      { s.memWrite .vbuf 0 a.bytes with
        addr := a, res := { s.res with ctrl := c, tag := 0, len := 6 } }
  | .dataReply c t v =>
      { s.memWrite .vbuf 0 v with
        res := { s.res with ctrl := c, tag := t, len := BitVec.ofNat 8 v.length } }
  | .writeReply c p =>
      { s.memWrite .vbuf 0 p with
        res := { s.res with ctrl := c, tag := 0, len := BitVec.ofNat 8 p.length } }

/-- The completion of a decode, with its result or its typed error (R170, R188, R290, R291): the one
operation by which a typed error of a frame is taken. -/
def State.complete (s : State) : Except Status Decoded → State
  | .ok d => (s.writeDecoded d).post .ok
  | .error e => s.resultLost.post e

/-- `finish(r)`: the flush and the completion of a transaction (R205). -/
def State.finish (s : State) (r : Except Status Decoded) : State :=
  State.complete
    { s.rxClear with pend := { s.pend with valid := false }, tx := { s.tx with txs := .idle } } r

/-! ## Scanner events: entry and return -/

/-- `sleep`: the scanner waits ten ticks (R228, R246). -/
def State.scanSleep (s : State) : State :=
  { s with sc := { s.sc with scs := .sleep, cnt := BitVec.ofNat 4 Config.scanSleep } }

/-- The scanner presents an event and is held (R243). -/
def State.presentEvent (s : State) (c : Byte) (tag : Word) (value : List Byte) : State :=
  { s.memWrite .evbuf 0 value with
    ev := ⟨c, tag, BitVec.ofNat 8 value.length⟩, sc := { s.sc with scs := .dispatch } }

/-- The event registers and EVBUF have become unspecified: they take free values (R34, R244, assumption
log 9). -/
def State.eventLost (s : State) : State :=
  { s.forgetBuf .evbuf with
    ev := ⟨(Config.freeWord s.free Reg.evFunc.offset).setWidth 8, Config.freeWord s.free Reg.evTag.offset,
      (Config.freeWord s.free Reg.evLen.offset).setWidth 8⟩ }

/-- The return from an event: the scanner sleeps and scans on (R244, R296). -/
def State.releaseEvent (s : State) : State := s.eventLost.scanSleep

/-! ## Outcomes -/

/-- The outcome of an operation that can violate a precondition of the transport. -/
def outcome : Except Fault State → Host.Outcome State Fault Refusal
  | .ok s => .next s
  | .error e => .fault e

end Sys2Proof.Machine
end

