-- ==== Sys2Proof/Machine/Operands.lean ====
section
/-! DEFINITION. The operand forms of the host commands: the packed byte strings, the selected range, the
valid prefix, the write request, and the expectations of a decode (R30, R75, R271). -/

namespace Sys2Proof.Machine

/-- Byte `i` of a register that packs a byte string: bits `8i+7:8i` (R75 (d)). -/
def packedByte (v : Word) (i : Nat) : Byte := v.extractLsb' (8 * i) 8

/-- The four bytes packed in a register, byte 0 first on the wire (R30). -/
def unpack (v : Word) : List Byte := [packedByte v 0, packedByte v 1, packedByte v 2, packedByte v 3]

/-- The address operand of the codec, packed like `ADDR_LO` and `ADDR_HI` (R30, R21). -/
def OperandRegs.address (o : OperandRegs) : Address :=
  ⟨packedByte o.addrLo 0, packedByte o.addrLo 1, packedByte o.addrLo 2, packedByte o.addrLo 3,
   o.addrHi.extractLsb' 0 8, o.addrHi.extractLsb' 8 8⟩

/-- The optional tag operand of `ENC_READ` (R158). -/
def OperandRegs.tag? (o : OperandRegs) : Option Word := if o.hasTag then some o.tag else none

/-- The buffer named by `OP_RANGE.BUFSEL`; 3 is reserved (R143, R260). -/
def OperandRegs.buffer? (o : OperandRegs) : Option Buf :=
  if o.bufSel = 0 then some .ibuf
  else if o.bufSel = 1 then some .vbuf
  else if o.bufSel = 2 then some .evbuf
  else none

/-- The selected range of a buffer, bounds-checked on natural numbers against the valid length: the
reserved selector is InvalidArgument, a range outside the valid bytes RangeError (R143, R261). -/
def State.selectedRange (s : State) : Except Status (List Byte) :=
  match s.op.buffer? with
  | none => .error .invalidArgument
  | some b =>
      if s.op.start.toNat + s.op.rangeLen.toNat > s.validLen b then .error .rangeError
      else .ok (s.memRead b s.op.start.toNat s.op.rangeLen.toNat)

/-- The raw buffer of a decode: the valid prefix of IBUF (R170). -/
def State.rawInput (s : State) : List Byte := s.memRead .ibuf 0 s.ibufLen.toNat

/-- The declared lengths of a write request are legal (R160, R210). -/
def OperandRegs.writeLensGood (o : OperandRegs) : Bool :=
  decide (o.pwLen = 4) && decide (o.operLen = 4) && decide (o.plen.toNat ≤ Config.pbufSize)

/-- The frame of a write request from the operand registers and PBUF; `none` is InvalidArgument (R160,
R209, R210). PBUF is read only when the lengths are legal (R162). -/
def State.writeRequest (s : State) (addr : Address) (func : Byte) : Option (List Byte) :=
  if s.op.writeLensGood then
    encodeWriteRequest addr func (unpack s.op.pw) (unpack s.op.oper) s.op.tag
      (s.memRead .pbuf 0 s.op.plen.toNat)
  else none

/-- `expectedFuncCode` of the decode in progress: `PEND.FUNC` in a transaction, `OP_FUNC.FUNC` otherwise
(R22, R170, R204). -/
def State.expectedFunc (s : State) : Byte := if s.pend.valid then s.pend.func else s.op.func

/-- `expectedTag` of the decode in progress: `PEND.TAG` in a transaction, `OP_TAG` otherwise (R22, R170,
R204). -/
def State.expectedTag (s : State) : Word := if s.pend.valid then s.pend.tag else s.op.tag

/-- The completion of the decode in progress: with the flush in a transaction (R205), without it for
`DEC_FRAME` (R170). -/
def State.deliver (s : State) (r : Except Status Decoded) : State :=
  if s.pend.valid then s.finish r else s.complete r

end Sys2Proof.Machine
end

