-- ==== Sys2Proof/Machine/Bcd.lean ====
section
/-! DEFINITION. BCDDecoder: `BCD_DECODE` (R260 to R267). -/

namespace Sys2Proof.Machine

/-- The two digits of a byte: low nibble units, high nibble tens, no digit check (R263, R265). -/
def bcdDigits (b : Byte) : Nat := (b &&& 0x0F).toNat + 10 * (b >>> 4).toNat

/-- `bcd_mant(s)`: byte `i` weighs `100^i` (R263). -/
def bcdMant : List Byte → Nat
  | [] => 0
  | b :: bs => bcdDigits b + 100 * bcdMant bs

/-- The value the result pair represents, `mantissa / 10^DP`, exactly (R40, R264). -/
def State.bcdValue (s : State) : Rat := (s.res.mant.toNat : Rat) / (10 : Rat) ^ s.res.dp.toNat

/-- `BCD_DECODE`: reserved selector, then range, then length, then the result; on every error the
mantissa and the decimal places keep their values (R260, R261, R262, R266). -/
def execBcdDecode (s : State) : Host.Outcome State Fault Refusal :=
  match s.selectedRange with
  | .error e => .next (s.post e)
  | .ok bytes =>
      if s.op.rangeLen.toNat > Config.bcdMaxLen then .next (s.post .invalidArgument)
      else .next (State.post
        { s with res := { s.res with mant := BitVec.ofNat 64 (bcdMant bytes), dp := s.op.dp } } .ok)

end Sys2Proof.Machine
end

