-- ==== Sys2Proof/Machine/Checksum.lean ====
section
/-! DEFINITION. Checksum8: `CS_RESET`, `CS_UPDATE`, `CS_UPDATE_RANGE`, `CS_VALUE` (R141 to R144). -/

namespace Sys2Proof.Machine

/-- `CS_RESET` (R141). -/
def execCsReset (s : State) : Host.Outcome State Fault Refusal :=
  .next (State.post { s with acc := 0 } .ok)

/-- `CS_UPDATE`: the carry out of bit 7 is dropped (R142). -/
def execCsUpdate (s : State) : Host.Outcome State Fault Refusal :=
  .next (State.post { s with acc := s.acc + s.op.byte } .ok)

/-- `CS_UPDATE_RANGE`: the sum of the selected range is added to the accumulator; on a refused range the
accumulator keeps its value (R143). -/
def execCsUpdateRange (s : State) : Host.Outcome State Fault Refusal :=
  match s.selectedRange with
  | .error e => .next (s.post e)
  | .ok bytes => .next (State.post { s with acc := s.acc + checksum8 bytes } .ok)

/-- `CS_VALUE`: the accumulator is not changed by reading it (R144). -/
def execCsValue (s : State) : Host.Outcome State Fault Refusal :=
  .next (State.post { s with res := { s.res with val := s.acc } } .ok)

end Sys2Proof.Machine
end

