-- ==== Sys2Proof/Machine/Codec.lean ====
section
/-! DEFINITION. FrameCodec: the strict decoder `decodeFrame` (R172 to R187) and the commands
`ENC_READ`, `ENC_WRITE`, `DEC_FRAME` (R158, R160, R170). -/

namespace Sys2Proof.Machine

/-- The read-address arm: length, then header copy against data copy; the direction is not examined and
the current `ADDR` is not consulted (R182). -/
def readAddressArm (addr : Address) (ctrl : Byte) (d : List Byte) : Except Status Decoded :=
  if d.length < 6 then .error .lengthOutOfRange
  else if addr.bytes ≠ d.take 6 then .error .addressMismatchError
  else .ok (.addressReply ctrl (Address.ofBytes d))

/-- The read-data arm: address, error direction, tag, normal direction, length, in this order (R183). -/
def readDataArm (addr : Address) (ctrl : Byte) (d : List Byte) (tag : Word) (store : Address) :
    Except Status Decoded :=
  if addr ≠ store then .error .addressMismatchError
  else if dirOf ctrl = 0xC0 then .error .replyErrorIndicated
  else if d.length < 4 ∨ d.take 4 ≠ le32 tag then .error .functionMismatchError
  else if dirOf ctrl ≠ 0x80 then .error .functionMismatchError
  else if d.length < 6 ∨ d.length > 12 then .error .lengthOutOfRange
  else .ok (.dataReply ctrl tag (d.drop 4))

/-- The write arm: the control code exactly 0x94 or 0xD4; address and length are not checked (R184). -/
def writeArm (ctrl : Byte) (d : List Byte) : Except Status Decoded :=
  if ctrl ≠ 0x94 ∧ ctrl ≠ 0xD4 then .error .functionMismatchError
  else .ok (.writeReply ctrl d)

/-- Step 5 of the decoder: the unknown-function test, the expected-function test, the three arms (R178 to
R184). -/
def dispatchReply (addr : Address) (ctrl : Byte) (d : List Byte) (func : Byte) (tag : Word)
    (store : Address) : Except Status Decoded :=
  if baseOf ctrl ≠ 0x11 ∧ baseOf ctrl ≠ 0x13 ∧ baseOf ctrl ≠ 0x14 then .error .unknownFunction
  else if baseOf ctrl ≠ baseOf func then .error .functionMismatchError
  else if baseOf ctrl = 0x13 then readAddressArm addr ctrl d
  else if baseOf ctrl = 0x11 then readDataArm addr ctrl d tag store
  else writeArm ctrl d

/-- The decoder on a frame whose fields have been found: the checksum, then step 5 (R175, R177, R185). -/
def decodeFields (f : WireFrame) (func : Byte) (tag : Word) (store : Address) : Except Status Decoded :=
  if f.sumGood then dispatchReply f.addr f.ctrl f.data func tag store else .error .checksumError

/-- `decodeFrame(raw, expectedFuncCode, expectedTag, addressStore)` (R185). Every way in which the frame
cannot be found is FramingError (R172 to R174, R276). -/
def decodeFrame (raw : List Byte) (func : Byte) (tag : Word) (store : Address) :
    Except Status Decoded :=
  match parseFrame raw with
  | .error _ => .error .framingError
  | .ok f => decodeFields f func tag store

/-- `ENC_READ` (R158). -/
def execEncRead (s : State) : Host.Outcome State Fault Refusal :=
  .next ((s.writeObuf (encodeReadRequest s.op.address s.op.func s.op.tag?)).post .ok)

/-- `ENC_WRITE` (R160). -/
def execEncWrite (s : State) : Host.Outcome State Fault Refusal :=
  match s.writeRequest s.op.address s.op.func with
  | none => .next (s.obufLost.post .invalidArgument)
  | some f => .next ((s.writeObuf f).post .ok)

/-- `DEC_FRAME`: the expected function and tag come from the operand registers (R170, R337). -/
def execDecFrame (s : State) : Host.Outcome State Fault Refusal :=
  .next (s.complete (decodeFrame s.rawInput s.op.func s.op.tag s.addr))

end Sys2Proof.Machine
end

