-- ==== Sys2Proof/Machine/ReceiveLoop.lean ====
section
/-! DEFINITION. The scanner: start and stop, the cycle, the body, classification and dispatch (R225 to
R247), the command `EV_ACK`, and the two event rows of the wire. -/

namespace Sys2Proof.Machine

/-- An event is handed to the listener, or silently dropped when there is none (R242, R243). -/
def State.offerEvent (s : State) (c : Byte) (tag : Word) (value : List Byte) : State :=
  if s.ctrl.listenerEn then s.presentEvent c tag value else s.scanSleep

/-- The event of a frame that is not a write reply: with fewer than four data bytes it is a swallowed
failure, else the first four are the tag (R239, R240). -/
def State.taggedEvent (s : State) (c : Byte) (d : List Byte) : State :=
  if d.length < 4 then s.setFrameErr.scanSleep
  else s.offerEvent c (fromLe32 (d.take 4)) (d.drop 4)

/-- Classification by control code: 0x94 and 0xD4 are write replies with tag 0 (R240). -/
def State.classify (s : State) (c : Byte) (d : List Byte) : State :=
  if c = 0x94 ∨ c = 0xD4 then s.offerEvent c 0 d else s.taggedEvent c d

/-- `body()`: read data, checksum and terminator; a mismatch only sets `CS_WARN`; the terminator is
consumed and not examined (R235 to R237). -/
def State.scanBody (s : State) : Except Fault State :=
  match s.rxReads s.sc.len.toNat with
  | .error e => .error e
  | .ok (w, t) =>
      match t.rxRead with
      | .error e => .error e
      | .ok (cs, u) =>
          match u.rxRead with
          | .error e => .error e
          | .ok (_, v) =>
              let sum := checksum8 (Config.startByte :: v.sc.addr.bytes
                ++ [Config.startByte, v.sc.ctrl, v.sc.len] ++ w)
              let x := if sum ≠ cs then v.setCsWarn else v
              .ok (x.classify x.sc.ctrl (w.map sub33))

/-- `body_check()`: the body when `dataLen + 2` more bytes are there, else ten more ticks (R234). -/
def State.bodyCheck (s : State) : Except Fault State :=
  if s.sc.len.toNat + 2 ≤ s.rxAvail then s.scanBody
  else .ok { s with sc := { s.sc with scs := .waitBody, cnt := BitVec.ofNat 4 Config.scanSleep } }

/-- The header after its start byte: six address bytes, the second start byte, control code and length.
A wrong second start byte costs the eight bytes read so far (R231, R233). -/
def State.scanHeader (s : State) : Except Fault State :=
  match s.rxReads 7 with
  | .error e => .error e
  | .ok (a, t) =>
      if a.getD 6 0 ≠ Config.startByte then .ok t.setFrameErr.scanSleep
      else
        match t.rxReads 2 with
        | .error e => .error e
        | .ok (cl, u) =>
            State.bodyCheck
              { u with sc := { u.sc with
                  addr := Address.ofBytes a, ctrl := cl.getD 0 0, len := cl.getD 1 0 } }

/-- `cycle()`: fewer than ten bytes are left alone; a byte that is not a start byte is discarded (R228 to
R230). -/
def State.scanCycle (s : State) : Except Fault State :=
  if s.rxAvail < Config.hdrSpan then .ok s.scanSleep
  else
    match s.rxRead with
    | .error e => .error e
    | .ok (b, t) => if b ≠ Config.startByte then .ok t.scanSleep else t.scanHeader

/-- The scanner's reaction to a tick: in `S_SLEEP` and `S_WAITBODY` the counter falls by one and at 0 the
cycle or the body test runs in the same step; elsewhere nothing (R227, R238). -/
def State.scanTick (s : State) : Except Fault State :=
  let t := { s with sc := { s.sc with cnt := s.sc.cnt - 1 } }
  match s.sc.scs with
  | .off => .ok s
  | .sleep => if t.sc.cnt = 0 then t.scanCycle else .ok t
  | .waitBody => if t.sc.cnt = 0 then t.bodyCheck else .ok t
  | .dispatch => .ok s

/-- The scanner starts: the first cycle runs at the tenth tick, nothing is flushed (R226). -/
def State.scanStart (s : State) : State :=
  State.scanSleep { s with ctrl := { s.ctrl with scanEn := true } }

/-- The scanner stops at once from any state; a frame or an event in progress is dropped, `RXQ` is kept
(R245). -/
def State.scanStop (s : State) : State :=
  let t := if s.evValid then s.eventLost else s
  { t with ctrl := { t.ctrl with scanEn := false }, sc := { t.sc with scs := .off } }

/-- The `LISTENER_EN` bit of a `CTRL` write: clearing it while an event is presented drops the event (R25,
R244). -/
def State.setListener (s : State) (en : Bool) : State :=
  let t := { s with ctrl := { s.ctrl with listenerEn := en } }
  if !en && s.evValid then t.releaseEvent else t

/-- The `SCAN_EN` bit of a `CTRL` write (R25, R226, R245). -/
def State.setScanEn (s : State) (en : Bool) : State :=
  if en && !s.ctrl.scanEn then
    if s.busy then s.setCmdRej else s.scanStart
  else if !en && s.ctrl.scanEn then s.scanStop
  else s

/-- A host write to `CTRL` (R25). -/
def State.writeCtrl (s : State) (v : Word) : State :=
  (s.setScanEn (v.getLsbD 0)).setListener (v.getLsbD 1)

/-- `EV_ACK`: the listener's return; illegal when no event is presented (R244). -/
def execEvAck (s : State) : Host.Outcome State Fault Refusal :=
  if s.evValid then .next (s.releaseEvent.post .ok) else .next (s.post .illegalCommand)

/-- The scanner is in a state in which it can come to classify a frame (R228, R238, R243). -/
def State.scanning (s : State) : Bool := decide (s.sc.scs = .sleep) || decide (s.sc.scs = .waitBody)

/-- `EVT_WRITE_REPLY`: a write reply at the scanner is offered with tag 0 and its whole payload (R240). A
scanner that is off or held by an event classifies nothing (assumption log 7). -/
def execEvtWriteReply (_addr : Address) (c : Byte) (d : List Byte) (s : State) :
    Host.Outcome State Fault Refusal :=
  if s.scanning then .next (s.offerEvent c 0 d) else .next s

/-- `EVT_TAGGED`: any other frame at the scanner (R239, R240). A scanner that is off or held by an event
classifies nothing (assumption log 7). -/
def execEvtTagged (_addr : Address) (c : Byte) (d : List Byte) (s : State) :
    Host.Outcome State Fault Refusal :=
  if s.scanning then .next (s.taggedEvent c d) else .next s

end Sys2Proof.Machine
end

