-- ==== Sys2Proof/Machine/Transaction.lean ====
section
/-! DEFINITION. TransactionEngine: the start step, the poll, the read, the completion, the reaction to a
tick (R195 to R206), and the commands `TX_READ_ADDRESS`, `TX_READ_DATA`, `TX_WRITE_DATA`. -/

namespace Sys2Proof.Machine

/-- The expected-reply length of the operation in flight (R200, R31). -/
def State.expectedLen (s : State) : Nat :=
  match s.tx.op with
  | .readAddress => s.cfg.expRdAddr.toNat
  | .readData => s.cfg.expRdData.toNat
  | .writeData => s.cfg.expWrite.toNat

/-- `finish_read()`: read all available bytes into IBUF (at most 512), decode them with the expectations
of `PEND`, flush and complete (R203 to R205). -/
def State.finishRead (s : State) : Except Fault State :=
  match s.rxReads (min s.rxAvail Config.ibufSize) with
  | .error e => .error e
  | .ok (raw, t) =>
      let u := { t.memWrite .ibuf 0 raw with ibufLen := BitVec.ofNat 10 raw.length }
      .ok (u.finish (decodeFrame raw u.pend.func u.pend.tag u.addr))

/-- The budget is exhausted and nothing has come: `IBUF_LEN` is 0 and IBUF unspecified; flush and
complete with TimeoutError (R202, R291). -/
def State.finishTimeout (s : State) : State :=
  State.finish { s.forgetBuf .ibuf with ibufLen := 0 } (.error .timeoutError)

/-- `poll()`: availability first, then the budget, else sleep one increment (R200, R206). -/
def State.poll (s : State) : Except Fault State :=
  if s.expectedLen ≤ s.rxAvail then s.finishRead
  else if s.cfg.timeoutMs.toNat ≤ s.tx.elapsed.toNat then
    if s.rxAvail = 0 then .ok s.finishTimeout else s.finishRead
  else .ok { s with tx := { s.tx with cnt := s.cfg.pollMs, txs := .wait } }

/-- The start step of a transaction, once its frame is built (R198, R199). -/
def State.startTx (s : State) (o : TxOp) (func : Byte) (tag : Word) (f : List Byte) :
    Except Fault State :=
  State.poll
    { (s.writeObuf f).txWrite f with
      pend := ⟨func, tag, true⟩, tx := { s.tx with op := o, elapsed := 0 } }

/-- The engine's reaction to a tick: nothing unless `T_WAIT`; the counter falls by one and at 0 the
elapsed time grows by one increment and the poll runs in the same step (R201). -/
def State.txTick (s : State) : Except Fault State :=
  if s.tx.txs = .wait then
    let t := { s with tx := { s.tx with cnt := s.tx.cnt - 1 } }
    if t.tx.cnt = 0 then
      State.poll { t with tx := { t.tx with elapsed := t.tx.elapsed + t.cfg.pollMs.setWidth 17 } }
    else .ok t
  else .ok s

/-- `TX_READ_ADDRESS` (R207); refused with Busy while the scanner runs (R196). -/
def execTxReadAddress (s : State) : Host.Outcome State Fault Refusal :=
  if s.scanActive then .next (s.post .busy)
  else outcome (s.startTx .readAddress 0x13 0 (encodeReadRequest s.addr 0x13 none))

/-- `TX_READ_DATA` (R208); refused with Busy while the scanner runs (R196). -/
def execTxReadData (s : State) : Host.Outcome State Fault Refusal :=
  if s.scanActive then .next (s.post .busy)
  else outcome (s.startTx .readData 0x11 s.op.tag (encodeReadRequest s.addr 0x11 (some s.op.tag)))

/-- `TX_WRITE_DATA` (R209); refused with Busy while the scanner runs (R196). With illegal declared
lengths nothing is sent, the input is flushed all the same, and it completes with InvalidArgument
(R210, R291). -/
def execTxWriteData (s : State) : Host.Outcome State Fault Refusal :=
  if s.scanActive then .next (s.post .busy)
  else
    match s.writeRequest s.addr 0x14 with
    | none => .next (s.obufLost.resultLost.rxClear.post .invalidArgument)
    | some f => outcome (s.startTx .writeData 0x14 s.op.tag f)

end Sys2Proof.Machine
end

