-- ==== Sys2Proof/Machine/Transform.lean ====
section
/-! DEFINITION. The data-byte transform: `XF_ADD33`, `XF_SUB33` (R152, R153). -/

namespace Sys2Proof.Machine

/-- `XF_ADD33` (R152). -/
def execXfAdd33 (s : State) : Host.Outcome State Fault Refusal :=
  .next (State.post { s with res := { s.res with val := add33 s.op.byte } } .ok)

/-- `XF_SUB33` (R153). -/
def execXfSub33 (s : State) : Host.Outcome State Fault Refusal :=
  .next (State.post { s with res := { s.res with val := sub33 s.op.byte } } .ok)

end Sys2Proof.Machine
end

