-- ==== Sys2Proof/Machine/Wire.lean ====
section
/-! DEFINITION. The illegal command and the rows of the wire: the frame layout, the requests the encoder
produces, and the replies the synchronous decoder dispatches (R101, R121, R155 to R157, R178 to R184).
How these rows are run by the host commands is assumption logs 2, 4, 5 and 6. -/

namespace Sys2Proof.Machine

/-- `CMD_ILLEGAL`: nothing changes but the completion (R121). -/
def execCmdIllegal (_opcode : Byte) (s : State) : Host.Outcome State Fault Refusal :=
  .next (s.post .illegalCommand)

/-- `FRAME`: a frame at the strict decoder, with the expectations of the decode in progress (R185). -/
def execFrame (f : WireFrame) (s : State) : Host.Outcome State Fault Refusal :=
  .next (s.deliver (decodeFields f s.expectedFunc s.expectedTag s.addr))

/-- `REQ_READ_DATA`: the encoder produces the request frame (R156). -/
def execReqReadData (addr : Address) (tag : Word) (s : State) : Host.Outcome State Fault Refusal :=
  .next ((s.writeObuf (encodeReadRequest addr 0x11 (some tag))).post .ok)

/-- `REQ_READ_DATA_CLEAR_ALARM`: the encoder produces the request frame (R156). -/
def execReqReadDataClearAlarm (addr : Address) (tag : Word) (s : State) :
    Host.Outcome State Fault Refusal :=
  .next ((s.writeObuf (encodeReadRequest addr 0x12 (some tag))).post .ok)

/-- `REQ_READ_ADDRESS`: the encoder produces the request frame, without a tag (R156). -/
def execReqReadAddress (addr : Address) (s : State) : Host.Outcome State Fault Refusal :=
  .next ((s.writeObuf (encodeReadRequest addr 0x13 none)).post .ok)

/-- `REQ_WRITE_DATA`: the encoder produces the request frame, or fails with InvalidArgument (R157, R161). -/
def execReqWriteData (addr : Address) (tag : Word) (password operator payload : List Byte) (s : State) :
    Host.Outcome State Fault Refusal :=
  match encodeWriteRequest addr 0x14 password operator tag payload with
  | none => .next (s.obufLost.post .invalidArgument)
  | some f => .next ((s.writeObuf f).post .ok)

/-- `RSP_READ_ADDRESS`: the read-address arm, whatever the direction (R182). -/
def execRspReadAddress (addr : Address) (c : Byte) (d : List Byte) (s : State) :
    Host.Outcome State Fault Refusal :=
  .next (s.deliver (readAddressArm addr c d))

/-- `RSP_READ_DATA`: the read-data arm with the normal direction (R183). -/
def execRspReadData (addr : Address) (d : List Byte) (s : State) :
    Host.Outcome State Fault Refusal :=
  .next (s.deliver (readDataArm addr 0x91 d s.expectedTag s.addr))

/-- `RSP_READ_DATA_ERROR`: the read-data arm with the error direction (R183). -/
def execRspReadDataError (addr : Address) (d : List Byte) (s : State) :
    Host.Outcome State Fault Refusal :=
  .next (s.deliver (readDataArm addr 0xD1 d s.expectedTag s.addr))

/-- `RSP_READ_DATA_OTHER_DIRECTION`: the read-data arm with a direction DOC does not name (R183, R106). -/
def execRspReadDataOtherDirection (addr : Address) (c : Byte) (d : List Byte) (s : State) :
    Host.Outcome State Fault Refusal :=
  .next (s.deliver (readDataArm addr c d s.expectedTag s.addr))

/-- `RSP_WRITE_ACK`: the write arm, acknowledge (R184). -/
def execRspWriteAck (_addr : Address) (d : List Byte) (s : State) :
    Host.Outcome State Fault Refusal :=
  .next (s.deliver (writeArm 0x94 d))

/-- `RSP_WRITE_ERROR`: the write arm, the meter refused; a successful decode all the same (R184, R331). -/
def execRspWriteError (_addr : Address) (d : List Byte) (s : State) :
    Host.Outcome State Fault Refusal :=
  .next (s.deliver (writeArm 0xD4 d))

/-- `RSP_WRITE_OTHER`: the write arm with another control code (R184). -/
def execRspWriteOther (_addr : Address) (c : Byte) (d : List Byte) (s : State) :
    Host.Outcome State Fault Refusal :=
  .next (s.deliver (writeArm c d))

/-- `RSP_UNKNOWN`: no arm; UnknownFunction, never a zero-filled result (R179, R180). -/
def execRspUnknown (_addr : Address) (_c : Byte) (_d : List Byte) (s : State) :
    Host.Outcome State Fault Refusal :=
  .next (s.deliver (.error .unknownFunction))

end Sys2Proof.Machine
end

