-- ==== Sys2Proof/Machine/Dispatch.lean ====
section
/-! DEFINITION. One arm per instruction. -/

namespace Sys2Proof.Machine

def exec (i : Instr) (s : State) : Host.Outcome State Fault Refusal :=
  match i with
  | .csReset => Sys2Proof.Machine.execCsReset s
  | .csUpdate => Sys2Proof.Machine.execCsUpdate s
  | .csUpdateRange => Sys2Proof.Machine.execCsUpdateRange s
  | .csValue => Sys2Proof.Machine.execCsValue s
  | .xfAdd33 => Sys2Proof.Machine.execXfAdd33 s
  | .xfSub33 => Sys2Proof.Machine.execXfSub33 s
  | .encRead => Sys2Proof.Machine.execEncRead s
  | .encWrite => Sys2Proof.Machine.execEncWrite s
  | .decFrame => Sys2Proof.Machine.execDecFrame s
  | .bcdDecode => Sys2Proof.Machine.execBcdDecode s
  | .txReadAddress => Sys2Proof.Machine.execTxReadAddress s
  | .txReadData => Sys2Proof.Machine.execTxReadData s
  | .txWriteData => Sys2Proof.Machine.execTxWriteData s
  | .evAck => Sys2Proof.Machine.execEvAck s
  | .cmdIllegal opcode => Sys2Proof.Machine.execCmdIllegal opcode s
  | .frame f => Sys2Proof.Machine.execFrame f s
  | .reqReadData addr tag => Sys2Proof.Machine.execReqReadData addr tag s
  | .reqReadDataClearAlarm addr tag => Sys2Proof.Machine.execReqReadDataClearAlarm addr tag s
  | .reqReadAddress addr => Sys2Proof.Machine.execReqReadAddress addr s
  | .reqWriteData addr tag password operator payload => Sys2Proof.Machine.execReqWriteData addr tag password operator payload s
  | .rspReadAddress addr c d => Sys2Proof.Machine.execRspReadAddress addr c d s
  | .rspReadData addr d => Sys2Proof.Machine.execRspReadData addr d s
  | .rspReadDataError addr d => Sys2Proof.Machine.execRspReadDataError addr d s
  | .rspReadDataOtherDirection addr c d => Sys2Proof.Machine.execRspReadDataOtherDirection addr c d s
  | .rspWriteAck addr d => Sys2Proof.Machine.execRspWriteAck addr d s
  | .rspWriteError addr d => Sys2Proof.Machine.execRspWriteError addr d s
  | .rspWriteOther addr c d => Sys2Proof.Machine.execRspWriteOther addr c d s
  | .rspUnknown addr c d => Sys2Proof.Machine.execRspUnknown addr c d s
  | .evtWriteReply addr c d => Sys2Proof.Machine.execEvtWriteReply addr c d s
  | .evtTagged addr c d => Sys2Proof.Machine.execEvtTagged addr c d s

end Sys2Proof.Machine
end

