-- ==== Sys2Proof/Machine/Registers.lean ====
section
/-! DEFINITION. The host's accesses to registers and buffers (R25 to R38, R74). -/

namespace Sys2Proof.Machine

/-- The value of a register, fields in place and every other bit 0 (R21, R22, R24 to R34, R37, R40). -/
def State.regValue (s : State) : Reg → Word
  | .ctrl => bitAt 0 s.ctrl.scanEn ||| bitAt 1 s.ctrl.listenerEn
  | .status => s.statusWord
  | .cmd => 0
  | .resStatus => s.res.status.code.setWidth 32
  | .resCtrl => s.res.ctrl.setWidth 32
  | .resLen => s.res.len.setWidth 32
  | .resTag => s.res.tag
  | .resVal => s.res.val.setWidth 32
  | .resMantLo => s.res.mant.extractLsb' 0 32
  | .resMantHi => s.res.mant.extractLsb' 32 32
  | .resDp => s.res.dp.setWidth 32
  | .acc => s.acc.setWidth 32
  | .addrLo => s.addr.b0.setWidth 32 ||| s.addr.b1.setWidth 32 <<< 8
      ||| s.addr.b2.setWidth 32 <<< 16 ||| s.addr.b3.setWidth 32 <<< 24
  | .addrHi => s.addr.b4.setWidth 32 ||| s.addr.b5.setWidth 32 <<< 8
  | .pendFunc => s.pend.func.setWidth 32
  | .pendTag => s.pend.tag
  | .opFunc => s.op.func.setWidth 32 ||| bitAt 8 s.op.hasTag
  | .opTag => s.op.tag
  | .opPw => s.op.pw
  | .opOper => s.op.oper
  | .opLens => s.op.pwLen.setWidth 32 ||| s.op.operLen.setWidth 32 <<< 8 ||| s.op.plen.setWidth 32 <<< 16
  | .opAddrLo => s.op.addrLo
  | .opAddrHi => s.op.addrHi.setWidth 32
  | .opRange => s.op.start.setWidth 32 ||| s.op.rangeLen.setWidth 32 <<< 16
      ||| s.op.bufSel.setWidth 32 <<< 28
  | .opDp => s.op.dp.setWidth 32
  | .opByte => s.op.byte.setWidth 32
  | .ibufLen => s.ibufLen.setWidth 32
  | .obufLen => s.obufLen.setWidth 32
  | .timeoutMs => s.cfg.timeoutMs.setWidth 32
  | .pollMs => s.cfg.pollMs.setWidth 32
  | .explen => s.cfg.expRdAddr.setWidth 32 ||| s.cfg.expRdData.setWidth 32 <<< 8
      ||| s.cfg.expWrite.setWidth 32 <<< 16
  | .evFunc => s.ev.func.setWidth 32
  | .evTag => s.ev.tag
  | .evLen => s.ev.len.setWidth 32

/-- What the Host reads from a register: a free value where the rules call it unspecified (R33, assumption
log 10), else its value. -/
def State.readReg (s : State) (r : Reg) : Word :=
  if s.busy && r.unspecifiedWhileBusy then Config.freeWord s.free r.offset else s.regValue r

/-- What the Host reads at a register offset: 0 where it is unmapped (R38). -/
def State.readRegAt (s : State) (off : Nat) : Word :=
  match regAt off with
  | none => 0
  | some r => s.readReg r

/-- Write-any-read-legal: a field written 0 stores 1 (R31). -/
def atLeastOne {w : Nat} (v : BitVec w) : BitVec w := if v = 0 then 1 else v

/-- A value of `IBUF_LEN` above 512 stores 512 (R32, assumption log 19). -/
def clampIbufLen (v : BitVec 10) : BitVec 10 := if v.toNat > Config.ibufSize then 512 else v

/-- A write under the lock: ignored with `CMD_REJ` while `BUSY` (R33). -/
def State.unlessBusy (s : State) (t : State) : State := if s.busy then s.setCmdRej else t

/-- A host write to a register other than `CMD`; writes to read-only registers are ignored without a flag
(R25, R26, R30 to R33, R38). -/
def State.writeReg (s : State) (r : Reg) (v : Word) : State :=
  match r with
  | .ctrl => s.writeCtrl v
  | .status => s.clearSticky v
  | .opFunc => s.unlessBusy { s with op := { s.op with func := v.extractLsb' 0 8, hasTag := v.getLsbD 8 } }
  | .opTag => s.unlessBusy { s with op := { s.op with tag := v } }
  | .opPw => s.unlessBusy { s with op := { s.op with pw := v } }
  | .opOper => s.unlessBusy { s with op := { s.op with oper := v } }
  | .opLens => s.unlessBusy { s with op := { s.op with
      pwLen := v.extractLsb' 0 8, operLen := v.extractLsb' 8 8, plen := v.extractLsb' 16 8 } }
  | .opAddrLo => s.unlessBusy { s with op := { s.op with addrLo := v } }
  | .opAddrHi => s.unlessBusy { s with op := { s.op with addrHi := v.extractLsb' 0 16 } }
  | .opRange => s.unlessBusy { s with op := { s.op with
      start := v.extractLsb' 0 16, rangeLen := v.extractLsb' 16 9, bufSel := v.extractLsb' 28 2 } }
  | .opDp => s.unlessBusy { s with op := { s.op with dp := v.extractLsb' 0 4 } }
  | .opByte => s.unlessBusy { s with op := { s.op with byte := v.extractLsb' 0 8 } }
  | .ibufLen => s.unlessBusy { s with ibufLen := clampIbufLen (v.extractLsb' 0 10) }
  | .timeoutMs => s.unlessBusy { s with cfg := { s.cfg with timeoutMs := v.extractLsb' 0 16 } }
  | .pollMs => s.unlessBusy { s with cfg := { s.cfg with pollMs := atLeastOne (v.extractLsb' 0 16) } }
  | .explen => s.unlessBusy { s with cfg := { s.cfg with
      expRdAddr := atLeastOne (v.extractLsb' 0 8), expRdData := atLeastOne (v.extractLsb' 8 8),
      expWrite := atLeastOne (v.extractLsb' 16 8) } }
  | .cmd | .resStatus | .resCtrl | .resLen | .resTag | .resVal | .resMantLo | .resMantHi | .resDp => s
  | .acc | .addrLo | .addrHi | .pendFunc | .pendTag | .obufLen | .evFunc | .evTag | .evLen => s

/-- What the Host reads at a buffer offset: 0 where it is unmapped (R74); a free value at or beyond the
valid length (R73) and where the buffer is unspecified while `BUSY` (R33); else the byte held. -/
def State.readBufAt (s : State) (off : Nat) : Byte :=
  match bufAt off with
  | none => 0
  | some b =>
      if s.busy && b.unspecifiedWhileBusy then Config.freeByte s.free off
      else if s.validLen b ≤ off - b.base then Config.freeByte s.free off
      else s.byteAt off

/-- A host write at a buffer offset: IBUF and PBUF under the lock; the other buffers and unmapped offsets
ignore it without a flag (R74, R33). -/
def State.writeBufAt (s : State) (off : Nat) (v : Byte) : State :=
  match bufAt off with
  | none => s
  | some b => if b.hostWritable then s.unlessBusy (s.memWrite b (off - b.base) [v]) else s

end Sys2Proof.Machine
end

