-- ==== Sys2Proof/Machine/Agents.lean ====
section
/-! DEFINITION. The steps of the agents (R13, R86): the Host's accesses, the acceptance of a command, byte
arrival, the tick, reset. -/

namespace Sys2Proof.Machine

/-- A write to `CMD`: ignored with `CMD_REJ` while `BUSY`; else accepted: `RSP_VALID` falls and the command
of bits 7:0 executes in the same step (R28, R288). -/
def acceptCommand (v : Word) (s : State) : Host.Outcome State Fault Refusal :=
  if s.busy then .next s.setCmdRej
  else exec (decodeCommand v) { s with flags := { s.flags with rspValid := false } }

/-- `WR`: a host write at a register offset; an unmapped offset ignores it (R38). -/
def hostWrite (off : Nat) (v : Word) (s : State) : Host.Outcome State Fault Refusal :=
  match regAt off with
  | none => .next s
  | some .cmd => acceptCommand v s
  | some r => .next (s.writeReg r v)

/-- One tick, delivered to both machines within the step (R86, R300). -/
def tick (s : State) : Host.Outcome State Fault Refusal :=
  match s.txTick with
  | .error e => .fault e
  | .ok t => outcome t.scanTick

/-- A reset of the block at any moment: every piece of its state takes its reset value, the transport and
what stands outside the block keep theirs (R310 to R312). -/
def State.resetBlock (s : State) : State :=
  { State.reset with
    rxq := s.rxq, txOut := s.txOut, moves := s.moves, hostData := s.hostData, free := s.free }

/-- One atomic step of an agent (R86, R124). -/
def runMove (m : Move) (s : State) : Host.Outcome State Fault Refusal :=
  match m with
  | .regWrite off v => hostWrite off v s
  | .regRead off => .next { s with hostData := s.readRegAt off }
  | .bufWrite off b => .next (s.writeBufAt off b)
  | .bufRead off => .next { s with hostData := (s.readBufAt off).setWidth 32 }
  | .rxByte b => .next (s.rxArrive b)
  | .tick => tick s
  | .reset => .next s.resetBlock

/-- The state in which the next move is taken: it leaves the list, and the free values of this move are
new. -/
def State.takeMove (s : State) (rest : List Move) : State :=
  { s with moves := rest, free := s.free + 1 }

/-- The next agent's step; with no move left the block waits (R310). -/
def nextMove (s : State) : Host.Outcome State Fault Refusal :=
  match s.moves with
  | [] => .next s
  | m :: rest => runMove m (s.takeMove rest)

/-- The state whose next move is a write of `v` to `CMD`, which it will accept. -/
def State.withCommand (s : State) (v : Word) : State :=
  { s with moves := .regWrite Reg.cmd.offset v :: s.moves, tx := { s.tx with txs := .idle } }

/-- The state whose next move runs the words of an encoding space: a command is written to `CMD`; a read
request is what `ENC_READ` makes of its operand registers, a write request what `ENC_WRITE` makes of
its own; a frame is what `DEC_FRAME` finds in IBUF, its function being the expected one; an event is what
the scanner finds in `RXQ` at the tick that ends its sleep (assumption log 3). -/
def State.withCode (s : State) : Code → State
  | .command v => s.withCommand v
  | .request raw =>
      match parseFrame raw with
      | .error _ => s
      | .ok f =>
          let o := { s.op with
            addrLo := fromLe32 f.addr.bytes
            addrHi := (fromLe32 (f.addr.bytes.drop 4)).setWidth 16
            func := f.ctrl
            hasTag := !f.data.isEmpty
            tag := fromLe32 f.data }
          if f.ctrl = 0x14 then
            State.withCommand
              { s.memWrite .pbuf 0 (f.data.drop 12) with
                op := { o with
                  pw := fromLe32 (f.data.drop 4), oper := fromLe32 (f.data.drop 8), pwLen := 4,
                  operLen := 4, plen := BitVec.ofNat 8 (f.data.length - 12) } }
              0x11
          else State.withCommand { s with op := o } 0x10
  | .event raw =>
      { s with
        rxq := raw, moves := .tick :: s.moves, tx := { s.tx with txs := .idle }
        ctrl := { s.ctrl with scanEn := true }, sc := { s.sc with scs := .sleep, cnt := 1 } }
  | .wire raw | .reply raw =>
      match parseFrame raw with
      | .error _ => s
      | .ok f =>
          State.withCommand
            { s.memWrite .ibuf 0 raw with
              ibufLen := BitVec.ofNat 10 raw.length, op := { s.op with func := f.ctrl } }
            0x12

end Sys2Proof.Machine
end

