-- ==== Sys2Proof/Machine/Step.lean ====
section
/-! DEFINITION. One step of the machine, and where its next instruction is put. -/

namespace Sys2Proof.Machine

/-- One step: the next agent's move (R86). -/
def step (s : State) : Host.Outcome State Fault Refusal := nextMove s

/-- The state whose very next step runs the instruction of an opcode-table word (assumption log 3). -/
def State.withFetchWord (s : State) (_nbits w : Nat) : State :=
  s.withCode (codeOfByte (BitVec.ofNat 8 w))

end Sys2Proof.Machine
end

