-- ==== Sys2Proof/Safety.lean ====
section
/-! DEFINITION. The terms the statements use: the invariant of the machine, what a decode result shows,
and the spec's formulas written once more in natural numbers and indices, apart from the model's own
functions. -/

namespace Sys2Proof.Machine

/-! ## The invariant -/

/-- What holds of every state a run can reach. -/
structure State.Inv (s : State) : Prop where
  /-- The buffers' list is in canonical form. -/
  canonical : s.mem.wf = true
  /-- Only bytes of the five buffers are listed (R71). -/
  mapped : ∀ c ∈ s.mem, (bufAt c.1).isSome = true
  /-- The two machines are never active together (R88). -/
  exclusive : ¬ (s.tx.txs = .wait ∧ s.sc.scs ≠ .off)
  /-- The scanner runs exactly while `SCAN_EN` is set (R226, R245). -/
  scanEnabled : s.ctrl.scanEn = true ↔ s.sc.scs ≠ .off
  /-- `PEND.VALID` is set exactly while a transaction is in flight (R22, R198). -/
  pending : s.pend.valid = true ↔ s.tx.txs = .wait
  /-- An event is presented only to a registered listener (R242, R244). -/
  listener : s.sc.scs = .dispatch → s.ctrl.listenerEn = true
  /-- No response is shown while a transaction is in flight (R28, R290). -/
  response : s.tx.txs = .wait → s.flags.rspValid = false
  /-- `IBUF_LEN` stays within the buffer (R32). -/
  ibufLen : s.ibufLen.toNat ≤ 512
  /-- `OBUF_LEN` stays within the buffer (R32). -/
  obufLen : s.obufLen.toNat ≤ 271
  /-- The timing registers hold legal values (R31). -/
  timing : s.cfg.pollMs ≠ 0 ∧ s.cfg.expRdAddr ≠ 0 ∧ s.cfg.expRdData ≠ 0 ∧ s.cfg.expWrite ≠ 0
  /-- In `T_WAIT` the poll counter runs from `POLL_MS` down to 1 (R35). -/
  pollCount : s.tx.txs = .wait → 1 ≤ s.tx.cnt.toNat ∧ s.tx.cnt.toNat ≤ s.cfg.pollMs.toNat
  /-- In `T_WAIT` the elapsed time is a multiple of `POLL_MS` below the budget (R35, R200). -/
  elapsed : s.tx.txs = .wait →
    s.cfg.pollMs.toNat ∣ s.tx.elapsed.toNat ∧ s.tx.elapsed.toNat < s.cfg.timeoutMs.toNat
  /-- In `S_SLEEP` and `S_WAITBODY` the scanner's counter runs from 10 down to 1 (R36). -/
  scanCount : s.scanning = true → 1 ≤ s.sc.cnt.toNat ∧ s.sc.cnt.toNat ≤ 10
  /-- The transport's queue stays within its capacity (R76). -/
  queue : s.rxq.length ≤ Config.rxDepth

/-! ## Frames of memory -/

/-- Every buffer byte outside the `n` offsets from `a` upward reads in `t` as it reads in `s`. -/
def State.keepsOutside (s t : State) (a n : Nat) : Prop :=
  ∀ c, ¬ (a ≤ c ∧ c < a + n) → t.byteAt c = s.byteAt c

/-- Every buffer byte reads in `t` as it reads in `s`. -/
def State.keepsBytes (s t : State) : Prop := ∀ c, t.byteAt c = s.byteAt c

/-! ## The spec's formulas in natural numbers -/

/-- The plain sum of a byte sequence. -/
def byteSum (l : List Byte) : Nat := (l.map BitVec.toNat).sum

/-- `frame(addr, ctrl, data)` as R155 writes it: leading bytes, body with every data byte raised by 0x33
modulo 256, the sum of the body modulo 256, the terminator. -/
def frameSpec (addr : Address) (ctrl : Byte) (data : List Byte) : List Byte :=
  let body := [0x68, addr.b0, addr.b1, addr.b2, addr.b3, addr.b4, addr.b5, 0x68, ctrl,
    BitVec.ofNat 8 data.length] ++ data.map fun d => BitVec.ofNat 8 ((d.toNat + 0x33) % 256)
  [0xFE, 0xFE, 0xFE, 0xFE] ++ body ++ [BitVec.ofNat 8 (byteSum body % 256), 0x16]

/-- The four bytes of a tag, byte `i` being the tag divided by `256^i`, modulo 256 (R110). -/
def tagBytes (t : Word) : List Byte :=
  (List.range 4).map fun i => BitVec.ofNat 8 (t.toNat / 256 ^ i % 256)

/-- `bcd_mant(s)` as the sum of R263: byte `i` gives its low nibble plus ten times its high nibble, times
`100^i`. -/
def bcdSum (l : List Byte) : Nat :=
  ((List.range l.length).map fun i =>
    ((l.getD i 0).toNat % 16 + 10 * ((l.getD i 0).toNat / 16)) * 100 ^ i).sum

/-- `decodeFrame` written by indices, as R185 writes it. -/
def decodeByIndex (raw : List Byte) (func : Byte) (tag : Word) (store : Address) :
    Except Status Decoded :=
  let n := raw.length
  let at' (i : Nat) : Byte := raw.getD i 0
  match (List.range n).find? fun i => at' i == 0x68 with
  | none => .error .framingError
  | some s =>
    if s + 7 ≥ n ∨ at' (s + 7) ≠ 0x68 then .error .framingError
    else if s + 9 ≥ n then .error .framingError
    else
      let c := at' (s + 8)
      let len := (at' (s + 9)).toNat
      if s + 10 + len ≥ n then .error .framingError
      else if byteSum ((List.range (10 + len)).map fun i => at' (s + i)) % 256
          ≠ (at' (s + 10 + len)).toNat then .error .checksumError
      else
        let d := (List.range len).map fun i =>
          BitVec.ofNat 8 (((at' (s + 10 + i)).toNat + 0xCD) % 256)
        let h := (List.range 6).map fun i => at' (s + 1 + i)
        let base := c.toNat % 32
        let dir := c.toNat / 32 * 32
        if base ≠ 0x11 ∧ base ≠ 0x13 ∧ base ≠ 0x14 then .error .unknownFunction
        else if base ≠ func.toNat % 32 then .error .functionMismatchError
        else if base = 0x13 then
          if len < 6 then .error .lengthOutOfRange
          else if h ≠ d.take 6 then .error .addressMismatchError
          else .ok (.addressReply c (Address.ofBytes (d.take 6)))
        else if base = 0x11 then
          if h ≠ store.bytes then .error .addressMismatchError
          else if dir = 0xC0 then .error .replyErrorIndicated
          else if len < 4 ∨ d.take 4 ≠ tagBytes tag then .error .functionMismatchError
          else if dir ≠ 0x80 then .error .functionMismatchError
          else if len < 6 ∨ len > 12 then .error .lengthOutOfRange
          else .ok (.dataReply c tag (d.drop 4))
        else if c ≠ 0x94 ∧ c ≠ 0xD4 then .error .functionMismatchError
        else .ok (.writeReply c d)

/-! ## What a completed decode shows -/

/-- `t` shows the decoded reply in its result registers and VBUF, and the address store is what the reply
leaves, `store` being its value before (R182, R188). -/
def State.shows (t : State) (store : Address) : Decoded → Prop
  | .addressReply c a =>
      t.res.ctrl = c ∧ t.res.tag = 0 ∧ t.res.len = 6 ∧ t.memRead .vbuf 0 6 = a.bytes ∧ t.addr = a
  | .dataReply c g v =>
      t.res.ctrl = c ∧ t.res.tag = g ∧ t.res.len.toNat = v.length
        ∧ t.memRead .vbuf 0 v.length = v ∧ t.addr = store
  | .writeReply c p =>
      t.res.ctrl = c ∧ t.res.tag = 0 ∧ t.res.len.toNat = p.length
        ∧ t.memRead .vbuf 0 p.length = p ∧ t.addr = store

/-- `t` is what a decode with result `r` leaves when it completes: the status; on success the reply is
shown, on an error `RES_LEN` is 0 and `ADDR` is kept (R188, R290, R291). -/
def State.decodedAs (t : State) (store : Address) (r : Except Status Decoded) : Prop :=
  t.flags.rspValid = true ∧
  match r with
  | .ok d => t.res.status = .ok ∧ t.shows store d
  | .error e => t.res.status = e ∧ t.res.len = 0 ∧ t.addr = store

/-- How many bytes of VBUF a completed decode may change: those of the value it writes; on an error all of
them become unspecified (R188, R291). -/
def vbufTouched : Except Status Decoded → Nat
  | .ok (.addressReply _ _) => 6
  | .ok (.dataReply _ _ v) => v.length
  | .ok (.writeReply _ p) => p.length
  | .error _ => 255

/-- What a decode outside a transaction may change: the address store, the four result registers with
`RES_STATUS`, `RSP_VALID`, and the bytes of VBUF; everything else is as in `s` (R170, R291). -/
def State.decodeFrameOnly (s t : State) (r : Except Status Decoded) : Prop :=
  t = { s with
    addr := t.addr
    res := { s.res with status := t.res.status, ctrl := t.res.ctrl, len := t.res.len, tag := t.res.tag }
    flags := { s.flags with rspValid := true }
    mem := t.mem } ∧
  s.keepsOutside t 0x1500 (vbufTouched r)

/-- What the completion of a decode inside a transaction may change besides: the flush, `PEND.VALID` and
`TXS` (R205), after which the transaction's hidden registers mean nothing (R35, U5). -/
def State.transactionDecodeOnly (s t : State) (r : Except Status Decoded) : Prop :=
  t = { s with
    addr := t.addr
    res := { s.res with status := t.res.status, ctrl := t.res.ctrl, len := t.res.len, tag := t.res.tag }
    flags := { s.flags with rspValid := true }
    mem := t.mem
    rxq := []
    pend := { s.pend with valid := false }
    tx := { t.tx with txs := .idle } } ∧
  s.keepsOutside t 0x1500 (vbufTouched r)

/-- The completion of a decode step with result `r`, in whichever of the two contexts it stands. -/
def State.decodeCompletes (s t : State) (r : Except Status Decoded) : Prop :=
  t.decodedAs s.addr r ∧
    if s.pend.valid then s.transactionDecodeOnly t r else s.decodeFrameOnly t r

/-- The function code a decode step expects: of the request in flight, else of the operand register. -/
def State.wantedFunc (s : State) : Byte := if s.pend.valid then s.pend.func else s.op.func

/-- The tag a decode step expects: of the request in flight, else of the operand register. -/
def State.wantedTag (s : State) : Word := if s.pend.valid then s.pend.tag else s.op.tag

/-! ## The operands of the commands -/

/-- The address in `OP_ADDR_LO` and `OP_ADDR_HI`: byte `i` in bits `8i+7:8i` (R21, R30). -/
def State.operandAddress (s : State) : Address :=
  Address.ofBytes (tagBytes s.op.addrLo ++ (tagBytes (s.op.addrHi.setWidth 32)).take 2)

/-- The buffer `OP_RANGE.BUFSEL` selects and its valid length (R143). -/
def State.selected (s : State) : Buf × Nat :=
  if s.op.bufSel = 0 then (.ibuf, s.ibufLen.toNat)
  else if s.op.bufSel = 1 then (.vbuf, s.res.len.toNat)
  else (.evbuf, if s.sc.scs = .dispatch then s.ev.len.toNat else 0)

/-- The bytes `MemRead(B, START, LEN)` of the selected range. -/
def State.rangeBytes (s : State) : List Byte :=
  s.bytesAt (s.selected.1.base + s.op.start.toNat) s.op.rangeLen.toNat

/-- The declared lengths of a write request are the ones R157 and R161 ask for. -/
def State.lengthsGood (s : State) : Prop := s.op.pwLen = 4 ∧ s.op.operLen = 4 ∧ s.op.plen.toNat ≤ 243

/-- The data field of a write request from the operand registers and PBUF (R113, R160). -/
def State.writeData (s : State) : List Byte :=
  tagBytes s.op.tag ++ tagBytes s.op.pw ++ tagBytes s.op.oper ++ s.bytesAt 0x1400 s.op.plen.toNat

/-- `t` is `s` after a command that wrote nothing but its status (R290). -/
def State.postsOnly (s t : State) (e : Status) : Prop :=
  t = { s with res := { s.res with status := e }, flags := { s.flags with rspValid := true } } ∧ s.keepsBytes t

/-- `t` is `s` after a command that put the frame `f` into OBUF and posted OK (R158, R160). -/
def State.encodes (s t : State) (f : List Byte) : Prop :=
  t.bytesAt 0x1200 f.length = f ∧ t.obufLen.toNat = f.length ∧ t.res.status = .ok ∧
  t = { s with
    obufLen := t.obufLen, mem := t.mem
    res := { s.res with status := .ok }, flags := { s.flags with rspValid := true } } ∧
  s.keepsOutside t 0x1200 f.length

/-- `t` is `s` after an encoder that failed: `OBUF_LEN` is 0 and the bytes of OBUF are unspecified (R160,
R291). -/
def State.encodeFails (s t : State) : Prop :=
  t.obufLen = 0 ∧ t.res.status = .invalidArgument ∧
  t = { s with
    obufLen := 0, mem := t.mem
    res := { s.res with status := .invalidArgument }, flags := { s.flags with rspValid := true } } ∧
  s.keepsOutside t 0x1200 271

/-! ## The transaction -/

/-- The expected-reply length of an operation (R200). -/
def State.replyLen (s : State) : TxOp → Nat
  | .readAddress => s.cfg.expRdAddr.toNat
  | .readData => s.cfg.expRdData.toNat
  | .writeData => s.cfg.expWrite.toNat

/-- `t` is `s` after a transaction that ended with result `r`, having read `n` bytes into IBUF: the decode's
results, the flush, `PEND.VALID` 0, `T_IDLE`; everything else is as in `s` (R205, R291). -/
def State.endsTransaction (s t : State) (n : Nat) (r : Except Status Decoded) : Prop :=
  t.decodedAs s.addr r ∧
  t = { s with
    addr := t.addr
    res := { s.res with status := t.res.status, ctrl := t.res.ctrl, len := t.res.len, tag := t.res.tag }
    flags := { s.flags with rspValid := true }
    mem := t.mem
    ibufLen := t.ibufLen
    rxq := []
    pend := { s.pend with valid := false }
    tx := { t.tx with txs := .idle } } ∧
  ∀ c, ¬ (0x1000 ≤ c ∧ c < 0x1000 + n) → ¬ (0x1500 ≤ c ∧ c < 0x1500 + vbufTouched r) →
    t.byteAt c = s.byteAt c

/-- `t` is what a poll of operation `o` at elapsed time `e` makes of `s` (R200 to R206): with enough bytes, or
some at the end of the budget, it reads at most 512 into IBUF and decodes them; with none at the end of
the budget it times out; else it sleeps one more increment and changes nothing else. -/
def State.polls (s t : State) (o : TxOp) (e : Nat) : Prop :=
  let n := s.rxq.length
  let spent := s.cfg.timeoutMs.toNat ≤ e
  if s.replyLen o ≤ n ∨ (spent ∧ 0 < n) then
    t.ibufLen.toNat = min n 512 ∧ t.bytesAt 0x1000 (min n 512) = s.rxq.take 512 ∧
    s.endsTransaction t (min n 512) (decodeByIndex (s.rxq.take 512) s.pend.func s.pend.tag s.addr)
  else if spent then
    t.ibufLen = 0 ∧ s.endsTransaction t 512 (.error .timeoutError)
  else
    t = { s with tx := ⟨.wait, o, BitVec.ofNat 17 e, s.cfg.pollMs⟩ } ∧ s.keepsBytes t

/-- `t` is `s` after the start step of operation `o` with the request `f` (R199): the frame in OBUF and on
the transport, the pending request, and the first poll, at elapsed time 0. -/
def State.startsTransaction (s t : State) (o : TxOp) (func : Byte) (tag : Word) (f : List Byte) : Prop :=
  ∃ u : State,
    u.bytesAt 0x1200 f.length = f ∧ u.obufLen.toNat = f.length ∧
    u = { s with
      obufLen := u.obufLen, mem := u.mem
      txOut := s.txOut ++ f, pend := ⟨func, tag, true⟩, tx := { s.tx with op := o, elapsed := 0 } } ∧
    s.keepsOutside u 0x1200 f.length ∧
    u.polls t o 0

/-! ## The scanner -/

/-- `t` is `s` with the event `(c, tag, value)` presented (R243). The hidden registers mean nothing in
`S_DISPATCH` (R36, U5) and are left free. -/
def State.presents (s t : State) (c : Byte) (tag : Word) (value : List Byte) : Prop :=
  t.ev.func = c ∧ t.ev.tag = tag ∧ t.ev.len.toNat = value.length ∧ t.bytesAt 0x1600 value.length = value ∧
  t = { s with ev := t.ev, mem := t.mem, sc := { t.sc with scs := .dispatch } } ∧
  s.keepsOutside t 0x1600 value.length

/-- `t` is `s` with the scanner asleep for ten ticks (R228). The latched header means nothing in `S_SLEEP`
(R36, U5) and is left free. -/
def State.sleeps (s t : State) : Prop :=
  t = { s with sc := { t.sc with scs := .sleep, cnt := 10 } } ∧ s.keepsBytes t

/-- `t` is `s` after the event in it was released: the scanner sleeps, the event registers and EVBUF are
unspecified (R244), and the latched header means nothing (R36, U5). -/
def State.dropsEvent (s t : State) : Prop :=
  t = { s with ev := t.ev, mem := t.mem, sc := { t.sc with scs := .sleep, cnt := 10 } } ∧
  s.keepsOutside t 0x1600 255

/-- Both machines rest but for the scanner, whose next tick ends a sleep or a body wait. -/
def State.scanDue (s : State) (k : ScanState) : Prop := s.tx.txs = .idle ∧ s.sc.scs = k ∧ s.sc.cnt = 1

/-! ## Registers -/

/-- The reset column of R37. -/
def resetValue : Reg → Word
  | .addrLo => 0xAAAAAAAA
  | .addrHi => 0x0000AAAA
  | .timeoutMs => 0x000001F4
  | .pollMs => 0x00000064
  | .explen => 0x000C1212
  | _ => 0

/-- The status codes of R275. -/
def statusNumber : Status → Nat
  | .ok => 0 | .framingError => 1 | .checksumError => 2 | .addressMismatchError => 3
  | .functionMismatchError => 4 | .replyErrorIndicated => 5 | .lengthOutOfRange => 6 | .timeoutError => 7
  | .invalidArgument => 8 | .unknownFunction => 9 | .busy => 10 | .illegalCommand => 11 | .rangeError => 12

/-- The codes of `SCS` (R23). -/
def scanNumber : ScanState → Nat
  | .off => 0 | .sleep => 1 | .waitBody => 2 | .dispatch => 3

/-- The register map of R37: each offset with the number that is read there, its fields at their place values
(R21, R22, R24 to R26, R29 to R32, R34, R40). -/
def State.registerTable (s : State) : List (Nat × Nat) :=
  [(0x00, s.ctrl.scanEn.toNat + 2 * s.ctrl.listenerEn.toNat),
   (0x04, (decide (s.tx.txs ≠ .idle)).toNat + 2 * s.flags.rspValid.toNat + 4 * (decide (s.sc.scs ≠ .off)).toNat
      + 8 * (decide (s.sc.scs = .dispatch)).toNat + 16 * s.flags.csWarn.toNat + 32 * s.flags.frameErr.toNat
      + 64 * s.flags.cmdRej.toNat + 128 * s.pend.valid.toNat + 256 * (decide (s.tx.txs = .wait)).toNat
      + 1024 * scanNumber s.sc.scs),
   (0x08, 0),
   (0x0C, statusNumber s.res.status),
   (0x10, s.res.ctrl.toNat),
   (0x14, s.res.len.toNat),
   (0x18, s.res.tag.toNat),
   (0x1C, s.res.val.toNat)]
  ++ [(0x20, s.res.mant.toNat % 2 ^ 32),
   (0x24, s.res.mant.toNat / 2 ^ 32),
   (0x28, s.res.dp.toNat),
   (0x2C, s.acc.toNat),
   (0x30, s.addr.b0.toNat + 2 ^ 8 * s.addr.b1.toNat + 2 ^ 16 * s.addr.b2.toNat + 2 ^ 24 * s.addr.b3.toNat),
   (0x34, s.addr.b4.toNat + 2 ^ 8 * s.addr.b5.toNat),
   (0x38, s.pend.func.toNat),
   (0x3C, s.pend.tag.toNat)]
  ++ [(0x40, s.op.func.toNat + 2 ^ 8 * s.op.hasTag.toNat),
   (0x44, s.op.tag.toNat),
   (0x48, s.op.pw.toNat),
   (0x4C, s.op.oper.toNat),
   (0x50, s.op.pwLen.toNat + 2 ^ 8 * s.op.operLen.toNat + 2 ^ 16 * s.op.plen.toNat),
   (0x54, s.op.addrLo.toNat),
   (0x58, s.op.addrHi.toNat),
   (0x5C, s.op.start.toNat + 2 ^ 16 * s.op.rangeLen.toNat + 2 ^ 28 * s.op.bufSel.toNat),
   (0x60, s.op.dp.toNat),
   (0x64, s.op.byte.toNat)]
  ++ [(0x68, s.ibufLen.toNat),
   (0x6C, s.obufLen.toNat),
   (0x70, s.cfg.timeoutMs.toNat),
   (0x74, s.cfg.pollMs.toNat),
   (0x78, s.cfg.expRdAddr.toNat + 2 ^ 8 * s.cfg.expRdData.toNat + 2 ^ 16 * s.cfg.expWrite.toNat),
   (0x80, s.ev.func.toNat),
   (0x84, s.ev.tag.toNat),
   (0x88, s.ev.len.toNat)]

/-- The offset holds a valid byte: it is below the valid length of the buffer that R71 puts there (R32, R73). -/
def State.validOffset (s : State) (off : Nat) : Prop :=
  (0x1000 ≤ off ∧ off < 0x1000 + min 512 s.ibufLen.toNat) ∨
  (0x1200 ≤ off ∧ off < 0x1200 + min 271 s.obufLen.toNat) ∨
  (0x1400 ≤ off ∧ off < 0x1400 + min 243 s.op.plen.toNat) ∨
  (0x1500 ≤ off ∧ off < 0x1500 + s.res.len.toNat) ∨
  (s.sc.scs = .dispatch ∧ 0x1600 ≤ off ∧ off < 0x1600 + s.ev.len.toNat)

/-- The bits of an operand register that hold something (R30). -/
def operandMask : Reg → Option Word
  | .opFunc => some 0x000001FF
  | .opTag | .opPw | .opOper | .opAddrLo => some 0xFFFFFFFF
  | .opLens => some 0x00FFFFFF
  | .opAddrHi => some 0x0000FFFF
  | .opRange => some 0x31FFFFFF
  | .opDp => some 0x0000000F
  | .opByte => some 0x000000FF
  | _ => none

/-- The registers the Host can only read, and writes to which are ignored (R37, R38). -/
def readOnlyRegs : List Reg :=
  [.resStatus, .resCtrl, .resLen, .resTag, .resVal, .resMantLo, .resMantHi, .resDp, .acc, .addrLo, .addrHi,
   .pendFunc, .pendTag, .obufLen, .evFunc, .evTag, .evLen]

/-- The registers whose value R33 leaves open to a reader while `BUSY`: `IBUF_LEN`, `OBUF_LEN`, every `RES_*`. -/
def openWhileBusy : List Reg :=
  [.resStatus, .resCtrl, .resLen, .resTag, .resVal, .resMantLo, .resMantHi, .resDp, .ibufLen, .obufLen]

/-- The registers that the write lock covers, `CMD` among them (R33). -/
def lockedRegs : List Reg :=
  [.cmd, .opFunc, .opTag, .opPw, .opOper, .opLens, .opAddrLo, .opAddrHi, .opRange, .opDp, .opByte, .ibufLen,
   .timeoutMs, .pollMs, .explen]

end Sys2Proof.Machine
end

