-- ==== Sys2Proof/Certificates/Slice0/Obligations.lean ====
section
/-! DEFINITION. The statements for the provers. -/

section

open Sys2Proof Sys2Proof.Machine

/-! ## Checksum8 and the transform -/

/-- R140: the sum modulo 256, and the laws a model may use. -/
def Obligations.ChecksumIsSumModulo256 : Prop :=
  (∀ l : List Byte, (checksum8 l).toNat = byteSum l % 256) ∧
  (∀ l : List Byte, l.foldl (fun a b => a + b) 0 = checksum8 l) ∧
  (∀ l m : List Byte, checksum8 (l ++ m) = checksum8 (m ++ l) ∧
    (checksum8 (l ++ m)).toNat = ((checksum8 l).toNat + (checksum8 m).toNat) % 256) ∧
  (∀ (l m : List Byte) (b c : Byte), checksum8 (l ++ c :: m) = checksum8 (l ++ b :: m) + (c - b)) ∧
  (∀ (l m : List Byte) (b c : Byte), b ≠ c → checksum8 (l ++ c :: m) ≠ checksum8 (l ++ b :: m)) ∧
  (∀ (l m n : List Byte) (b c d : Byte),
    checksum8 (l ++ (b + d) :: m ++ (c - d) :: n) = checksum8 (l ++ b :: m ++ c :: n))

/-- R154, with the formulas of R150 and R151. -/
def Obligations.TransformsAreInverse : Prop :=
  ∀ b : Byte, sub33 (add33 b) = b ∧ add33 (sub33 b) = b ∧
    (add33 b).toNat = (b.toNat + 0x33) % 256 ∧ (sub33 b).toNat = (b.toNat + 0xCD) % 256

/-- R141. -/
def Obligations.CsResetClearsAcc : Prop :=
  (∀ v : Word, v.toNat % 256 = 0x01 → decodeCommand v = .csReset) ∧
  ∀ s : State, ∃ t, exec .csReset s = .next t ∧ t.acc = 0 ∧ t.res.status = .ok ∧
    t = { s with
      acc := t.acc
      res := { s.res with status := t.res.status }, flags := { s.flags with rspValid := true } } ∧
    s.keepsBytes t

/-- R142. -/
def Obligations.CsUpdateAddsByte : Prop :=
  (∀ v : Word, v.toNat % 256 = 0x02 → decodeCommand v = .csUpdate) ∧
  ∀ s : State, ∃ t, exec .csUpdate s = .next t ∧
    t.acc.toNat = (s.acc.toNat + s.op.byte.toNat) % 256 ∧ t.res.status = .ok ∧
    t = { s with
      acc := t.acc
      res := { s.res with status := t.res.status }, flags := { s.flags with rspValid := true } } ∧
    s.keepsBytes t

/-- R143: reserved selector, then range, then the sum of the selected bytes. -/
def Obligations.CsUpdateRangeAddsSelectedBytes : Prop :=
  (∀ v : Word, v.toNat % 256 = 0x03 → decodeCommand v = .csUpdateRange) ∧
  ∀ s : State, ∃ t, exec .csUpdateRange s = .next t ∧
    t = { s with
      acc := t.acc
      res := { s.res with status := t.res.status }, flags := { s.flags with rspValid := true } } ∧
    s.keepsBytes t ∧
    if s.op.bufSel = 3 then t.acc = s.acc ∧ t.res.status = .invalidArgument
    else if s.selected.2 < s.op.start.toNat + s.op.rangeLen.toNat then
      t.acc = s.acc ∧ t.res.status = .rangeError
    else t.acc.toNat = (s.acc.toNat + byteSum s.rangeBytes) % 256 ∧ t.res.status = .ok

/-- R144. -/
def Obligations.CsValueCopiesAcc : Prop :=
  (∀ v : Word, v.toNat % 256 = 0x04 → decodeCommand v = .csValue) ∧
  ∀ s : State, ∃ t, exec .csValue s = .next t ∧
    t.regValue .resVal = s.acc.setWidth 32 ∧ t.acc = s.acc ∧ s.regValue .acc = s.acc.setWidth 32 ∧
    t.res.status = .ok ∧
    t = { s with
      res := { s.res with status := t.res.status, val := t.res.val }
      flags := { s.flags with rspValid := true } } ∧
    s.keepsBytes t

/-- R152 and R153. -/
def Obligations.TransformCommandResults : Prop :=
  (∀ v : Word, v.toNat % 256 = 0x08 → decodeCommand v = .xfAdd33) ∧
  (∀ v : Word, v.toNat % 256 = 0x09 → decodeCommand v = .xfSub33) ∧
  (∀ s : State, ∃ t, exec .xfAdd33 s = .next t ∧
    (t.regValue .resVal).toNat = (s.op.byte.toNat + 0x33) % 256 ∧ t.res.status = .ok ∧
    t = { s with
      res := { s.res with status := t.res.status, val := t.res.val }
      flags := { s.flags with rspValid := true } } ∧
    s.keepsBytes t) ∧
  ∀ s : State, ∃ t, exec .xfSub33 s = .next t ∧
    (t.regValue .resVal).toNat = (s.op.byte.toNat + 0xCD) % 256 ∧ t.res.status = .ok ∧
    t = { s with
      res := { s.res with status := t.res.status, val := t.res.val }
      flags := { s.flags with rspValid := true } } ∧
    s.keepsBytes t

/-- R146 and R24, over every step of the machine: `ACC` changes only in an accepted CS_RESET, CS_UPDATE or
CS_UPDATE_RANGE, and in a reset (R310). -/
def Obligations.AccChangesOnlyByChecksumCommands : Prop :=
  ∀ s t : State, step s = .next t → t.acc ≠ s.acc →
    ∃ rest, s.moves = .reset :: rest ∨
      ∃ v : Word, s.moves = .regWrite 0x08 v :: rest ∧ s.tx.txs = .idle ∧
        (v.toNat % 256 = 0x01 ∨ v.toNat % 256 = 0x02 ∨ v.toNat % 256 = 0x03)

/-! ## FrameCodec, encode -/

/-- R155. -/
def Obligations.FrameLayout : Prop :=
  ∀ (a : Address) (c : Byte) (d : List Byte), d.length ≤ 255 →
    frame a c d = frameSpec a c d ∧ (frame a c d).length = 16 + d.length

/-- R156, R157 and R161: what the two encoders build, and when the second fails. -/
def Obligations.EncodersBuildFrames : Prop :=
  (∀ (a : Address) (func : Byte) (t : Word),
    encodeReadRequest a func none = frameSpec a func [] ∧
    (encodeReadRequest a func none).length = 16 ∧
    encodeReadRequest a func (some t) = frameSpec a func (tagBytes t) ∧
    (encodeReadRequest a func (some t)).length = 20) ∧
  ∀ (a : Address) (func : Byte) (pw oper : List Byte) (t : Word) (p : List Byte),
    if pw.length ≠ 4 ∨ oper.length ≠ 4 then encodeWriteRequest a func pw oper t p = none
    else if 243 < p.length then encodeWriteRequest a func pw oper t p = none
    else encodeWriteRequest a func pw oper t p = some (frameSpec a func (tagBytes t ++ pw ++ oper ++ p)) ∧
      (frameSpec a func (tagBytes t ++ pw ++ oper ++ p)).length = 28 + p.length

/-- R163 (a), (b) and (c): the sum over bytes 4 to `|frame|` - 3; what the decoder's first four steps find in
an encoded frame; the tag's bytes in a read request. -/
def Obligations.EncodedFrameIsRecovered : Prop :=
  (∀ (a : Address) (c : Byte) (d : List Byte), d.length ≤ 255 →
    byteSum (((frame a c d).drop 4).take ((frame a c d).length - 6)) % 256
      = ((frame a c d).getD ((frame a c d).length - 2) 0).toNat) ∧
  (∀ (a : Address) (c : Byte) (d : List Byte), d.length ≤ 255 →
    ∃ f, parseFrame (frame a c d) = .ok f ∧ f.lead.length = 4 ∧ f.sumGood = true ∧
      f.addr = a ∧ f.ctrl = c ∧ f.data = d) ∧
  ∀ (a : Address) (t : Word), ∃ f, parseFrame (encodeReadRequest a 0x11 (some t)) = .ok f ∧ f.data = tagBytes t

/-- R158. -/
def Obligations.EncReadBuildsRequest : Prop :=
  (∀ v : Word, v.toNat % 256 = 0x10 → decodeCommand v = .encRead) ∧
  ∀ s : State, ∃ t, exec .encRead s = .next t ∧
    s.encodes t (frameSpec s.operandAddress s.op.func (if s.op.hasTag then tagBytes s.op.tag else []))

/-- R160 (with R162: the frame has no PBUF byte at `PLEN` or above). -/
def Obligations.EncWriteBuildsRequest : Prop :=
  (∀ v : Word, v.toNat % 256 = 0x11 → decodeCommand v = .encWrite) ∧
  ∀ s : State, ∃ t, exec .encWrite s = .next t ∧
    (s.lengthsGood → s.encodes t (frameSpec s.operandAddress s.op.func s.writeData)) ∧
    (¬ s.lengthsGood → s.encodeFails t)

/-- The four request rows as instructions: OBUF receives the frame of R156 or R157. That a request row posts
as the encoder command does is the model's choice (assumption log 5). -/
def Obligations.RequestRowsBuildFrames : Prop :=
  ∀ (a : Address) (g : Word) (s : State),
    (∃ t, exec (.reqReadData a g) s = .next t ∧ s.encodes t (frameSpec a 0x11 (tagBytes g))) ∧
    (∃ t, exec (.reqReadDataClearAlarm a g) s = .next t ∧ s.encodes t (frameSpec a 0x12 (tagBytes g))) ∧
    (∃ t, exec (.reqReadAddress a) s = .next t ∧ s.encodes t (frameSpec a 0x13 [])) ∧
    ∀ pw oper p : List Byte, ∃ t, exec (.reqWriteData a g pw oper p) s = .next t ∧
      if pw.length = 4 ∧ oper.length = 4 ∧ p.length ≤ 243 then
        s.encodes t (frameSpec a 0x14 (tagBytes g ++ pw ++ oper ++ p))
      else s.encodeFails t

/-- ENC_READ and ENC_WRITE run the request row of their function code (assumption log 2). -/
def Obligations.EncodeCommandsRunRequestRows : Prop :=
  ∀ s : State,
    (s.op.func = 0x11 → s.op.hasTag = true →
      exec .encRead s = exec (.reqReadData s.operandAddress s.op.tag) s) ∧
    (s.op.func = 0x12 → s.op.hasTag = true →
      exec .encRead s = exec (.reqReadDataClearAlarm s.operandAddress s.op.tag) s) ∧
    (s.op.func = 0x13 → s.op.hasTag = false →
      exec .encRead s = exec (.reqReadAddress s.operandAddress) s) ∧
    (s.op.func = 0x14 → s.lengthsGood →
      exec .encWrite s = exec (.reqWriteData s.operandAddress s.op.tag (tagBytes s.op.pw)
        (tagBytes s.op.oper) (s.bytesAt 0x1400 s.op.plen.toNat)) s)

/-! ## Decoding -/

/-- A few words written out from the spec's encodings decode to their instructions. -/
def Obligations.SampleWordsDecode : Prop :=
  decode (.command 0x00000012) = .ok .decFrame ∧
  decode (.command 0xABCDEF30) = .ok .evAck ∧
  decode (.command 0x00000013) = .ok (.cmdIllegal 0x13) ∧
  decode (.request [0xFE, 0xFE, 0xFE, 0xFE, 0x68, 0x78, 0x56, 0x34, 0x12, 0x00, 0x00, 0x68, 0x11, 0x04,
      0x33, 0x33, 0x34, 0x33, 0xC6, 0x16])
    = .ok (.reqReadData ⟨0x78, 0x56, 0x34, 0x12, 0x00, 0x00⟩ 0x00010000) ∧
  decode (.reply [0x68, 0x78, 0x56, 0x34, 0x12, 0x00, 0x00, 0x68, 0x94, 0x00, 0x78, 0x16])
    = .ok (.rspWriteAck ⟨0x78, 0x56, 0x34, 0x12, 0x00, 0x00⟩ [])

/-- Decode of encode is the instruction, for every well-formed instruction of all five spaces. -/
def Obligations.DecodeOfEncode : Prop :=
  ∀ i : Instr, i.wf = true → decode (encode i) = .ok i

/-- No byte of a sequence is lost, added or moved when its frame is found (R101, R114), and what precedes the
frame has no start byte (R172). -/
def Obligations.ParsedFrameIsTheSequence : Prop :=
  ∀ (raw : List Byte) (f : WireFrame), parseFrame raw = .ok f →
    f.bytes = raw ∧ f.wire.length ≤ 255 ∧ Config.startByte ∉ f.lead

/-- R185: the decoder is the function that the rule writes by indices. -/
def Obligations.DecodeFrameIsRuleByIndex : Prop :=
  ∀ (raw : List Byte) (func : Byte) (tag : Word) (store : Address),
    decodeFrame raw func tag store = decodeByIndex raw func tag store

/-- R170 and R188, with the decoder of R185. -/
def Obligations.DecFrameDecodesIbuf : Prop :=
  (∀ v : Word, v.toNat % 256 = 0x12 → decodeCommand v = .decFrame) ∧
  ∀ s : State, ∃ t, exec .decFrame s = .next t ∧
    let r := decodeByIndex (s.bytesAt 0x1000 s.ibufLen.toNat) s.op.func s.op.tag s.addr
    t.decodedAs s.addr r ∧ s.decodeFrameOnly t r

/-- R293, over DEC_FRAME, the tick of a transaction and BCD_DECODE: a status other than OK comes with an empty
result, and a failed BCD_DECODE writes no mantissa register. -/
def Obligations.NoErrorBecomesAMeasurement : Prop :=
  (∀ s t : State, exec .decFrame s = .next t → t.res.status ≠ .ok → t.res.len = 0) ∧
  (∀ s t : State, s.tx.txs = .wait → s.sc.scs = .off → tick s = .next t → t.tx.txs = .idle →
    t.res.status ≠ .ok → t.res.len = 0) ∧
  (∀ s t : State, s.sc.scs = .off → s.flags.rspValid = false → t.flags.rspValid = true →
    (exec .txReadAddress s = .next t ∨ exec .txReadData s = .next t ∨ exec .txWriteData s = .next t) →
    t.res.status ≠ .ok → t.res.len = 0) ∧
  ∀ s t : State, exec .bcdDecode s = .next t → t.res.status ≠ .ok →
    t.res.mant = s.res.mant ∧ t.res.dp = s.res.dp

/-- DEC_FRAME outside a transaction runs the row FRAME of the frame in IBUF; FRAME runs the reply row of the
frame's class when the checksum is right and the class is the expected one or unknown (R178 to R181). -/
def Obligations.DecodeRunsReplyRows : Prop :=
  (∀ (s : State) (f : WireFrame), s.pend.valid = false →
    parseFrame (s.bytesAt 0x1000 s.ibufLen.toNat) = .ok f → exec .decFrame s = exec (.frame f) s) ∧
  ∀ (s : State) (f : WireFrame), byteSum f.covered % 256 = f.checksum.toNat →
    (f.ctrl.toNat % 32 = s.wantedFunc.toNat % 32 ∨
      (f.ctrl.toNat % 32 ≠ 0x11 ∧ f.ctrl.toNat % 32 ≠ 0x13 ∧ f.ctrl.toNat % 32 ≠ 0x14)) →
    exec (.frame f) s = exec (replyOf f.addr f.ctrl f.data) s

/-- FRAME: the strict decoder's verdict on the frame's bytes, taken as a completion. That the row runs as the
decode in progress is the model's choice (assumption logs 4 and 6). -/
def Obligations.FrameRowIsDecoded : Prop :=
  ∀ (f : WireFrame) (s : State), (Instr.frame f).wf = true → ∃ t, exec (.frame f) s = .next t ∧
    s.decodeCompletes t (decodeByIndex f.bytes s.wantedFunc s.wantedTag s.addr)

/-- R182 as the row RSP_READ_ADDRESS, whatever the direction; the context is assumption log 6. -/
def Obligations.RspReadAddressArm : Prop :=
  ∀ (a : Address) (c : Byte) (d : List Byte) (s : State), ∃ t, exec (.rspReadAddress a c d) s = .next t ∧
    s.decodeCompletes t
      (if d.length < 6 then .error .lengthOutOfRange
      else if a.bytes ≠ d.take 6 then .error .addressMismatchError
      else .ok (.addressReply c a))

/-- R183 as the rows RSP_READ_DATA, RSP_READ_DATA_ERROR and RSP_READ_DATA_OTHER_DIRECTION; the context is
assumption log 6. -/
def Obligations.RspReadDataArm : Prop :=
  ∀ (a : Address) (d : List Byte) (s : State),
    (∃ t, exec (.rspReadData a d) s = .next t ∧
      s.decodeCompletes t
        (if a ≠ s.addr then .error .addressMismatchError
        else if d.length < 4 ∨ d.take 4 ≠ tagBytes s.wantedTag then .error .functionMismatchError
        else if d.length < 6 ∨ 12 < d.length then .error .lengthOutOfRange
        else .ok (.dataReply 0x91 s.wantedTag (d.drop 4)))) ∧
    (∃ t, exec (.rspReadDataError a d) s = .next t ∧
      s.decodeCompletes t
        (if a ≠ s.addr then .error .addressMismatchError else .error .replyErrorIndicated)) ∧
    ∀ c : Byte, c.toNat / 32 ≠ 4 → c.toNat / 32 ≠ 6 →
      ∃ t, exec (.rspReadDataOtherDirection a c d) s = .next t ∧
        s.decodeCompletes t
          (if a ≠ s.addr then .error .addressMismatchError else .error .functionMismatchError)

/-- R184 as the rows RSP_WRITE_ACK, RSP_WRITE_ERROR and RSP_WRITE_OTHER; the context is assumption log 6. -/
def Obligations.RspWriteArm : Prop :=
  ∀ (a : Address) (d : List Byte) (s : State), d.length ≤ 255 →
    (∃ t, exec (.rspWriteAck a d) s = .next t ∧ s.decodeCompletes t (.ok (.writeReply 0x94 d))) ∧
    (∃ t, exec (.rspWriteError a d) s = .next t ∧ s.decodeCompletes t (.ok (.writeReply 0xD4 d))) ∧
    ∀ c : Byte, c ≠ 0x94 → c ≠ 0xD4 →
      ∃ t, exec (.rspWriteOther a c d) s = .next t ∧
        s.decodeCompletes t (.error .functionMismatchError)

/-- R179 as the row RSP_UNKNOWN; the context is assumption log 6. -/
def Obligations.RspUnknownIsUnknownFunction : Prop :=
  ∀ (a : Address) (c : Byte) (d : List Byte) (s : State), ∃ t, exec (.rspUnknown a c d) s = .next t ∧
    s.decodeCompletes t (.error .unknownFunction)

/-! ## BCDDecoder -/

/-- R263, R265 and R267: the mantissa is the sum of the rule, over all byte values, and its bounds. -/
def Obligations.BcdMantissaSumAndBounds : Prop :=
  (∀ l : List Byte, bcdMant l = bcdSum l) ∧
  (∀ l : List Byte, l.length ≤ 8 → bcdSum l ≤ 16666666666666665) ∧
  (∀ l : List Byte, l.length ≤ 7 → bcdSum l ≤ 166666666666665) ∧
  ∀ l : List Byte, (∀ b ∈ l, b.toNat % 16 ≤ 9 ∧ b.toNat / 16 ≤ 9) → bcdSum l ≤ 10 ^ (2 * l.length) - 1

/-- R260 to R262, R264 and R266: reserved selector, range, length, then the exact mantissa, and the rational
number that it and the decimal places represent. -/
def Obligations.BcdDecodeResult : Prop :=
  (∀ v : Word, v.toNat % 256 = 0x18 → decodeCommand v = .bcdDecode) ∧
  ∀ s : State, ∃ t, exec .bcdDecode s = .next t ∧
    t = { s with
      res := { s.res with status := t.res.status, mant := t.res.mant, dp := t.res.dp }
      flags := { s.flags with rspValid := true } } ∧
    s.keepsBytes t ∧
    if s.op.bufSel = 3 then
      t.res.status = .invalidArgument ∧ t.res.mant = s.res.mant ∧ t.res.dp = s.res.dp
    else if s.selected.2 < s.op.start.toNat + s.op.rangeLen.toNat then
      t.res.status = .rangeError ∧ t.res.mant = s.res.mant ∧ t.res.dp = s.res.dp
    else if 8 < s.op.rangeLen.toNat then
      t.res.status = .invalidArgument ∧ t.res.mant = s.res.mant ∧ t.res.dp = s.res.dp
    else
      t.res.status = .ok ∧ t.res.dp = s.op.dp ∧
      (t.regValue .resMantLo).toNat = bcdSum s.rangeBytes % 2 ^ 32 ∧
      (t.regValue .resMantHi).toNat = bcdSum s.rangeBytes / 2 ^ 32 ∧
      t.bcdValue = (bcdSum s.rangeBytes : Rat) / (10 : Rat) ^ s.op.dp.toNat

/-- R40, over every step of the machine: the mantissa and the decimal places change only in an accepted
BCD_DECODE that answers OK, and in a reset (R310). -/
def Obligations.MantissaChangesOnlyByBcdDecode : Prop :=
  ∀ s t : State, step s = .next t → (t.res.mant ≠ s.res.mant ∨ t.res.dp ≠ s.res.dp) →
    ∃ rest, s.moves = .reset :: rest ∨
      ∃ v : Word, s.moves = .regWrite 0x08 v :: rest ∧ s.tx.txs = .idle ∧ v.toNat % 256 = 0x18 ∧
        t.res.status = .ok

/-! ## TransactionEngine -/

/-- R196. -/
def Obligations.TransactionRefusedWhileScanning : Prop :=
  ∀ s : State, s.sc.scs ≠ .off →
    (∃ t, exec .txReadAddress s = .next t ∧ s.postsOnly t .busy) ∧
    (∃ t, exec .txReadData s = .next t ∧ s.postsOnly t .busy) ∧
    ∃ t, exec .txWriteData s = .next t ∧ s.postsOnly t .busy

/-- R207, with the start step and the poll of R199 to R206. -/
def Obligations.TxReadAddressStarts : Prop :=
  (∀ v : Word, v.toNat % 256 = 0x20 → decodeCommand v = .txReadAddress) ∧
  ∀ s : State, s.sc.scs = .off → ∃ t, exec .txReadAddress s = .next t ∧
    s.startsTransaction t .readAddress 0x13 0 (frameSpec s.addr 0x13 [])

/-- R208, with the start step and the poll of R199 to R206. -/
def Obligations.TxReadDataStarts : Prop :=
  (∀ v : Word, v.toNat % 256 = 0x21 → decodeCommand v = .txReadData) ∧
  ∀ s : State, s.sc.scs = .off → ∃ t, exec .txReadData s = .next t ∧
    s.startsTransaction t .readData 0x11 s.op.tag (frameSpec s.addr 0x11 (tagBytes s.op.tag))

/-- R209, with the start step and the poll of R199 to R206. -/
def Obligations.TxWriteDataStarts : Prop :=
  (∀ v : Word, v.toNat % 256 = 0x22 → decodeCommand v = .txWriteData) ∧
  ∀ s : State, s.sc.scs = .off → s.lengthsGood → ∃ t, exec .txWriteData s = .next t ∧
    s.startsTransaction t .writeData 0x14 s.op.tag (frameSpec s.addr 0x14 s.writeData)

/-- R210, with the row of R291: nothing is sent, the input is flushed. -/
def Obligations.TxWriteDataInvalidArgument : Prop :=
  ∀ s : State, s.sc.scs = .off → ¬ s.lengthsGood → ∃ t, exec .txWriteData s = .next t ∧
    t.res.status = .invalidArgument ∧ t.obufLen = 0 ∧ t.res.len = 0 ∧ t.rxq = [] ∧
    t = { s with
      obufLen := 0, rxq := [], mem := t.mem
      res := { s.res with status := .invalidArgument, len := 0, ctrl := t.res.ctrl, tag := t.res.tag }
      flags := { s.flags with rspValid := true } } ∧
    ∀ c, ¬ (0x1200 ≤ c ∧ c < 0x1200 + 271) → ¬ (0x1500 ≤ c ∧ c < 0x1500 + 255) → t.byteAt c = s.byteAt c

/-- R201: a tick in `T_WAIT`. The bound on the elapsed time is the invariant's (`State.Inv.elapsed`): no state
outside it is reached, and T_ELAPSED does not wrap. -/
def Obligations.TickInWait : Prop :=
  ∀ s : State, s.tx.txs = .wait → s.sc.scs = .off → s.tx.elapsed.toNat < s.cfg.timeoutMs.toNat →
    ∃ t, tick s = .next t ∧
      if s.tx.cnt = 1 then s.polls t s.tx.op (s.tx.elapsed.toNat + s.cfg.pollMs.toNat)
      else t = { s with tx := { s.tx with cnt := s.tx.cnt - 1 } } ∧ s.keepsBytes t

/-- R202: with a queue that stays empty the error is posted in the step of the tick that completes the first
multiple of `POLL_MS` at or above `TIMEOUT_MS`, counted from the accepted command, and not earlier. -/
def Obligations.TimeoutAtExactTick : Prop :=
  ∀ (s : State) (v : Word) (rest : List Move),
    s.tx.txs = .idle → s.sc.scs = .off → s.rxq = [] →
    s.cfg.pollMs ≠ 0 → s.cfg.expRdAddr ≠ 0 → s.cfg.expRdData ≠ 0 → s.cfg.expWrite ≠ 0 →
    (v.toNat % 256 = 0x20 ∨ v.toNat % 256 = 0x21 ∨ (v.toNat % 256 = 0x22 ∧ s.lengthsGood)) →
    let p := s.cfg.pollMs.toNat
    let k := (s.cfg.timeoutMs.toNat + p - 1) / p * p
    s.moves = .regWrite 0x08 v :: (List.replicate k .tick ++ rest) →
    (∃ t : State, Host.Core.run core (k + 1) s = .next t ∧ t.res.status = .timeoutError ∧
      t.flags.rspValid = true ∧ t.tx.txs = .idle ∧ t.pend.valid = false ∧ t.rxq = [] ∧
      t.ibufLen = 0 ∧ t.res.len = 0 ∧ t.addr = s.addr ∧ t.moves = rest) ∧
    ∀ j, 1 ≤ j → j ≤ k → ∃ u : State, Host.Core.run core j s = .next u ∧ u.tx.txs = .wait ∧
      u.flags.rspValid = false ∧ u.res = s.res

/-- The Transport's two queues. R81 and R87 (a): `TXS_OUT` only grows, and only by the one frame of an accepted
transaction command, whose payload is read in the state of the move (its number seeds the free values,
assumption log 8). R76 and R81: a byte that arrives joins the end of `RXQ` and changes nothing else; that it is
dropped when the queue is full is the model's choice (assumption log 12). -/
def Obligations.TransmittedBytesOnlyGrow : Prop :=
  (∀ s t : State, step s = .next t → t.txOut ≠ s.txOut →
    ∃ (rest : List Move) (v : Word), s.moves = .regWrite 0x08 v :: rest ∧ s.tx.txs = .idle ∧ s.sc.scs = .off ∧
      ((v.toNat % 256 = 0x20 ∧ t.txOut = s.txOut ++ frameSpec s.addr 0x13 []) ∨
       (v.toNat % 256 = 0x21 ∧ t.txOut = s.txOut ++ frameSpec s.addr 0x11 (tagBytes s.op.tag)) ∨
       (v.toNat % 256 = 0x22 ∧ s.lengthsGood ∧ t.txOut = s.txOut
          ++ frameSpec s.addr 0x14 (tagBytes s.op.tag ++ tagBytes s.op.pw ++ tagBytes s.op.oper
            ++ State.bytesAt { s with free := s.free + 1 } 0x1400 s.op.plen.toNat)))) ∧
  ∀ (s : State) (b : Byte), runMove (.rxByte b) s = .next
    (if s.rxq.length < Config.rxDepth then { s with rxq := s.rxq ++ [b] } else s)

/-- R21, R187 and R214 (d), over every step of the machine: `ADDR` changes only in a reset (R310), and where
DEC_FRAME, a TX_READ_ADDRESS in its start step, or the tick of a read-address transaction decodes a
read-address reply with success, to the address that VBUF then shows. -/
def Obligations.AddrChangesOnlyByReadAddressDecode : Prop :=
  ∀ s t : State, step s = .next t → t.addr ≠ s.addr →
    (∃ rest, s.moves = .reset :: rest ∧ t.addr = Config.addrDefault) ∨
    ((∃ (rest : List Move) (v : Word), s.moves = .regWrite 0x08 v :: rest ∧ s.tx.txs = .idle ∧
        ((v.toNat % 256 = 0x12 ∧ s.op.func.toNat % 32 = 0x13) ∨ (v.toNat % 256 = 0x20 ∧ s.sc.scs = .off))) ∨
      ∃ rest, s.moves = .tick :: rest ∧ s.tx.txs = .wait ∧ s.pend.func.toNat % 32 = 0x13) ∧
    t.flags.rspValid = true ∧ t.res.status = .ok ∧ t.res.ctrl.toNat % 32 = 0x13 ∧ t.res.tag = 0 ∧
      t.res.len = 6 ∧ t.bytesAt 0x1500 6 = t.addr.bytes

/-! ## ReceiveLoop -/

/-- R244: the listener's return, and the same transition when `LISTENER_EN` is cleared under an event. -/
def Obligations.EvAckReleasesEvent : Prop :=
  (∀ v : Word, v.toNat % 256 = 0x30 → decodeCommand v = .evAck) ∧
  (∀ s : State, s.sc.scs = .dispatch → ∃ t, exec .evAck s = .next t ∧
    ∃ u, s.dropsEvent u ∧ u.postsOnly t .ok) ∧
  (∀ s : State, s.sc.scs ≠ .dispatch → ∃ t, exec .evAck s = .next t ∧ s.postsOnly t .illegalCommand) ∧
  ∀ (s : State) (v : Word), s.sc.scs = .dispatch → s.ctrl.scanEn = true → v.toNat % 4 = 1 →
    ∃ t, runMove (.regWrite 0x00 v) s = .next t ∧
      State.dropsEvent { s with ctrl := ⟨true, false⟩ } t

/-- R240, R242 and R243 as the row EVT_WRITE_REPLY, at a scanner that can come to classify a frame. -/
def Obligations.EvtWriteReplyIsOffered : Prop :=
  ∀ (a : Address) (c : Byte) (d : List Byte) (s : State), d.length ≤ 255 →
    s.sc.scs = .sleep ∨ s.sc.scs = .waitBody → ∃ t, exec (.evtWriteReply a c d) s = .next t ∧
      if s.ctrl.listenerEn then s.presents t c 0 d else s.sleeps t

/-- R239, R240, R242 and R243 as the row EVT_TAGGED, at a scanner that can come to classify a frame. -/
def Obligations.EvtTaggedIsOffered : Prop :=
  ∀ (a : Address) (c : Byte) (d : List Byte) (s : State), d.length ≤ 255 →
    s.sc.scs = .sleep ∨ s.sc.scs = .waitBody → ∃ t, exec (.evtTagged a c d) s = .next t ∧
      if d.length < 4 then State.sleeps { s with flags := { s.flags with frameErr := true } } t
      else if s.ctrl.listenerEn then
        ∃ g, tagBytes g = d.take 4 ∧ s.presents t c g (d.drop 4)
      else s.sleeps t

/-- A scanner that is off or held by an event classifies nothing: the two event rows then change nothing. The
model's choice (assumption log 7). -/
def Obligations.EventRowsNeedAScanningScanner : Prop :=
  ∀ (a : Address) (c : Byte) (d : List Byte) (s : State), s.sc.scs = .off ∨ s.sc.scs = .dispatch →
    exec (.evtWriteReply a c d) s = .next s ∧ exec (.evtTagged a c d) s = .next s

/-- R227 and R238: a tick that does not end the scanner's wait lowers `S_CNT` by one and changes nothing else
(`S_CNT` is at least 1 in every state that a run reaches, `State.Inv.scanCount`). R229, R230, R233 and R234: the
tick that ends a sleep, but for a frame that is there whole. R234 and R238: a body test that fails reloads
`S_CNT` and changes nothing else. -/
def Obligations.ScannerCycle : Prop :=
  (∀ s : State, s.tx.txs = .idle → s.sc.scs = .sleep ∨ s.sc.scs = .waitBody → 2 ≤ s.sc.cnt.toNat →
    ∃ t, tick s = .next t ∧ t.sc.cnt.toNat + 1 = s.sc.cnt.toNat ∧
      t = { s with sc := { s.sc with cnt := t.sc.cnt } } ∧ s.keepsBytes t) ∧
  (∀ s : State, s.scanDue .waitBody → s.rxq.length < s.sc.len.toNat + 2 →
    ∃ t, tick s = .next t ∧ t = { s with sc := { s.sc with cnt := 10 } } ∧ s.keepsBytes t) ∧
  ∀ s : State, s.scanDue .sleep → ∃ t, tick s = .next t ∧
    (s.rxq.length < 10 → s.sleeps t) ∧
    (10 ≤ s.rxq.length → s.rxq.getD 0 0 ≠ 0x68 → State.sleeps { s with rxq := s.rxq.drop 1 } t) ∧
    (10 ≤ s.rxq.length → s.rxq.getD 0 0 = 0x68 → s.rxq.getD 7 0 ≠ 0x68 →
      State.sleeps { s with rxq := s.rxq.drop 8, flags := { s.flags with frameErr := true } } t) ∧
    (10 ≤ s.rxq.length → s.rxq.getD 0 0 = 0x68 → s.rxq.getD 7 0 = 0x68 →
      s.rxq.length < 12 + (s.rxq.getD 9 0).toNat →
      t = { s with
        rxq := s.rxq.drop 10
        sc := ⟨.waitBody, 10, Address.ofBytes (s.rxq.drop 1), s.rxq.getD 8 0, s.rxq.getD 9 0⟩ } ∧
      s.keepsBytes t)

/-- R234 to R237 and R240: when a frame is there whole the scanner takes it and runs its event row, on the
state in which the frame's bytes are consumed, the header is latched and a wrong checksum has set `CS_WARN`.
That the tick is a run of the event row is the model's reading (assumption log 2), and what the hidden counter
and header hold in that state its choice (assumption log 15). -/
def Obligations.ScannerRunsEventRow : Prop :=
  (∀ (s : State) (f : WireFrame) (e : Byte) (q : List Byte), s.scanDue .sleep → f.lead = [] →
    f.wire.length ≤ 255 → f.tail = e :: q → s.rxq = f.bytes →
    tick s = exec (eventOf f.addr f.ctrl f.data)
      { s with
        rxq := q, sc := ⟨.sleep, 0, f.addr, f.ctrl, BitVec.ofNat 8 f.wire.length⟩
        flags := { s.flags with
          csWarn := s.flags.csWarn || decide (byteSum f.covered % 256 ≠ f.checksum.toNat) } }) ∧
  ∀ (s : State) (w : List Byte) (cs e : Byte) (q : List Byte), s.scanDue .waitBody →
    w.length = s.sc.len.toNat → s.rxq = w ++ cs :: e :: q →
    tick s = exec (eventOf s.sc.addr s.sc.ctrl (w.map sub33))
      { s with
        rxq := q, sc := { s.sc with cnt := 0 }
        flags := { s.flags with
          csWarn := s.flags.csWarn || decide (byteSum
            ([0x68] ++ s.sc.addr.bytes ++ [0x68, s.sc.ctrl, s.sc.len] ++ w) % 256 ≠ cs.toNat) } }

/-- R236: two frames that differ in the checksum byte alone leave states that differ in `CS_WARN` alone. -/
def Obligations.ScannerChecksumIsAdvisory : Prop :=
  ∀ (s : State) (w : List Byte) (cs cs' e : Byte) (q : List Byte), s.scanDue .waitBody →
    w.length = s.sc.len.toNat → ∃ t t' : State,
      tick { s with rxq := w ++ cs :: e :: q } = .next t ∧
      tick { s with rxq := w ++ cs' :: e :: q } = .next t' ∧
      t' = { t with flags := { t.flags with csWarn := t'.flags.csWarn } } ∧
      (cs ≠ cs' → t.flags.csWarn = true ∨ t'.flags.csWarn = true)

/-- R238 and R326: however many ticks pass, a scanner whose bytes do not come stays in `S_WAITBODY` and changes
nothing but its counter. -/
def Obligations.ScannerMayWaitForever : Prop :=
  ∀ (n : Nat) (s : State) (rest : List Move), s.sc.scs = .waitBody → s.tx.txs = .idle →
    1 ≤ s.sc.cnt.toNat → s.sc.cnt.toNat ≤ 10 → s.rxq.length < s.sc.len.toNat + 2 →
    s.moves = List.replicate n .tick ++ rest →
    ∃ t : State, Host.Core.run core n s = .next t ∧ t.sc.scs = .waitBody ∧
      1 ≤ t.sc.cnt.toNat ∧ t.sc.cnt.toNat ≤ 10 ∧
      t = { s with sc := { s.sc with cnt := t.sc.cnt }, moves := rest, free := s.free + n }

/-! ## The Host's accesses -/

/-- R33, the writes: under the lock they are ignored and set `CMD_REJ`. -/
def Obligations.WriteLockWhileBusy : Prop :=
  ∀ s : State, s.tx.txs = .wait →
    (∀ r ∈ lockedRegs, ∀ v : Word, runMove (.regWrite r.offset v) s
      = .next { s with flags := { s.flags with cmdRej := true } }) ∧
    ∀ (off : Nat) (b : Byte),
      (0x1000 ≤ off ∧ off < 0x1200) ∨ (0x1400 ≤ off ∧ off < 0x14F3) →
      runMove (.bufWrite off b) s = .next { s with flags := { s.flags with cmdRej := true } }

/-- R25, R226 and R245: `SCAN_EN` written 1 over 0, the same refused under the lock, written as it is, and
written 0 over 1; `LISTENER_EN` is taken each time. The one write left out, `LISTENER_EN` cleared under an
event while the scanner stays on, is the last clause of `EvAckReleasesEvent`. The scanner's hidden registers are
left free wherever they mean nothing (R36, U5): the header at a start, the counter and the header at a stop. So
no clause rests on what the model keeps in them (assumption log 15) or on its order of the two bits
(assumption log 20). -/
def Obligations.ScanEnableWrites : Prop :=
  ∀ (s : State) (v : Word),
    let scan := decide (v.toNat % 2 = 1)
    let listen := decide (v.toNat / 2 % 2 = 1)
    (scan = true → s.ctrl.scanEn = false → s.tx.txs = .idle →
      ∃ t, runMove (.regWrite 0x00 v) s = .next t ∧
        t = { s with ctrl := ⟨true, listen⟩, sc := { t.sc with scs := .sleep, cnt := 10 } } ∧
        s.keepsBytes t) ∧
    (scan = true → s.ctrl.scanEn = false → s.tx.txs = .wait → s.sc.scs = .off →
      runMove (.regWrite 0x00 v) s = .next { s with
        ctrl := ⟨false, listen⟩, flags := { s.flags with cmdRej := true } }) ∧
    (scan = s.ctrl.scanEn → (listen = true ∨ s.sc.scs ≠ .dispatch) →
      runMove (.regWrite 0x00 v) s = .next { s with ctrl := ⟨scan, listen⟩ }) ∧
    (scan = false → s.ctrl.scanEn = true →
      ∃ t, runMove (.regWrite 0x00 v) s = .next t ∧
        t = { s with
          ctrl := ⟨false, listen⟩, sc := { t.sc with scs := .off }, ev := t.ev, mem := t.mem } ∧
        s.keepsOutside t 0x1600 255 ∧
        (s.sc.scs ≠ .dispatch → t.ev = s.ev ∧ s.keepsBytes t))

/-- R26: the bits of `STATUS`, and what a write to it does. -/
def Obligations.StatusBits : Prop :=
  ∀ s : State,
    (∀ i, (s.regValue .status).getLsbD i =
      match i with
      | 0 => decide (s.tx.txs ≠ .idle)
      | 1 => s.flags.rspValid
      | 2 => decide (s.sc.scs ≠ .off)
      | 3 => decide (s.sc.scs = .dispatch)
      | 4 => s.flags.csWarn
      | 5 => s.flags.frameErr
      | 6 => s.flags.cmdRej
      | 7 => s.pend.valid
      | 8 => decide (s.tx.txs = .wait)
      | 10 => decide (s.sc.scs = .sleep ∨ s.sc.scs = .dispatch)
      | 11 => decide (s.sc.scs = .waitBody ∨ s.sc.scs = .dispatch)
      | _ => false) ∧
    ∀ v : Word, runMove (.regWrite 0x04 v) s = .next { s with flags := { s.flags with
      csWarn := s.flags.csWarn && !v.getLsbD 4
      frameErr := s.flags.frameErr && !v.getLsbD 5
      cmdRej := s.flags.cmdRej && !v.getLsbD 6 } }

/-- R30, R31, R32 and R38: what a register reads after a write to it, when the lock is open. -/
def Obligations.RegisterReadBack : Prop :=
  ∀ s : State, s.tx.txs = .idle → ∀ v : Word,
    (∀ r m, operandMask r = some m → ∃ t, runMove (.regWrite r.offset v) s = .next t ∧
      t.regValue r = v &&& m ∧ t = { s with op := t.op } ∧
      ∀ r' : Reg, r' ≠ r → t.regValue r' = s.regValue r') ∧
    (∃ t, runMove (.regWrite 0x70 v) s = .next t ∧ (t.regValue .timeoutMs).toNat = v.toNat % 65536 ∧
      t = { s with cfg := { s.cfg with timeoutMs := t.cfg.timeoutMs } }) ∧
    (∃ t, runMove (.regWrite 0x74 v) s = .next t ∧
      (t.regValue .pollMs).toNat = max 1 (v.toNat % 65536) ∧
      t = { s with cfg := { s.cfg with pollMs := t.cfg.pollMs } }) ∧
    (∃ t, runMove (.regWrite 0x78 v) s = .next t ∧
      (t.regValue .explen).toNat = max 1 (v.toNat % 256) + 256 * max 1 (v.toNat / 256 % 256)
        + 65536 * max 1 (v.toNat / 65536 % 256) ∧
      t = { s with cfg := { s.cfg with
        expRdAddr := t.cfg.expRdAddr, expRdData := t.cfg.expRdData, expWrite := t.cfg.expWrite } }) ∧
    (∃ t, runMove (.regWrite 0x68 v) s = .next t ∧ (t.regValue .ibufLen).toNat = min 512 (v.toNat % 1024) ∧
      t = { s with ibufLen := t.ibufLen }) ∧
    (∀ r ∈ readOnlyRegs, runMove (.regWrite r.offset v) s = .next s) ∧
    ∀ off : Nat, (∀ r : Reg, r.offset ≠ off) → runMove (.regWrite off v) s = .next s

/-- R37, R38 and R74, the reads: no side effect; 0 at an unmapped offset and at `CMD`; at the offset of a register
the number its fields make up, the codes of R275 in `RES_STATUS` and the bytes of `ADDR` in their places (R21)
among them, and at a valid buffer byte the byte held, under BUSY too unless R33 calls it unspecified there. What
a register shows while the rules call its contents unspecified is the value that the model keeps in it
(assumption log 9). -/
def Obligations.ReadsHaveNoSideEffect : Prop :=
  ∀ (s : State) (off : Nat),
    (∃ w : Word, runMove (.regRead off) s = .next { s with hostData := w } ∧
      (∀ n : Nat, (off, n) ∈ s.registerTable →
        s.tx.txs = .idle ∨ off ∉ openWhileBusy.map Reg.offset → w.toNat = n) ∧
      (∀ r : Reg, r.offset = off → s.tx.txs = .idle ∨ r ∉ openWhileBusy → w = s.regValue r) ∧
      (off ∉ s.registerTable.map Prod.fst → w = 0) ∧ (off = 0x08 → w = 0)) ∧
    ∃ w : Word, runMove (.bufRead off) s = .next { s with hostData := w } ∧
      (s.tx.txs = .idle ∨ (0x1400 ≤ off ∧ off < 0x14F3) ∨ 0x1600 ≤ off →
        s.validOffset off → w = (s.byteAt off).setWidth 32) ∧
      ((∀ b : Buf, ¬ (b.base ≤ off ∧ off < b.base + b.size)) → w = 0)

/-- R74 and R71, the writes: IBUF and PBUF take a byte when the lock is open; no other offset does. That the
byte is kept at or beyond the buffer's valid length too, where R73 calls it unspecified, is the model's
reading (assumption log 11, DEDUCED): the Host loads a buffer before it writes the length (R125). -/
def Obligations.BufferWrites : Prop :=
  ∀ (s : State) (off : Nat) (b : Byte),
    ((0x1000 ≤ off ∧ off < 0x1200) ∨ (0x1400 ≤ off ∧ off < 0x14F3) → s.tx.txs = .idle →
      ∃ t, runMove (.bufWrite off b) s = .next t ∧ t = { s with mem := t.mem } ∧ t.byteAt off = b ∧
        s.keepsOutside t off 1) ∧
    (¬ ((0x1000 ≤ off ∧ off < 0x1200) ∨ (0x1400 ≤ off ∧ off < 0x14F3)) →
      runMove (.bufWrite off b) s = .next s)

/-! ## The whole machine -/

/-- R28 and R288 row 1: a step whose move is a write to `CMD` runs the decoded command, or is refused. -/
def Obligations.StepRunsDecodedCommand : Prop :=
  ∀ (s : State) (v : Word) (rest : List Move), s.moves = .regWrite 0x08 v :: rest →
    (s.tx.txs = .idle → ∀ i, decode (.command v) = .ok i → step s = exec i
      { s with moves := rest, free := s.free + 1, flags := { s.flags with rspValid := false } }) ∧
    (s.tx.txs = .wait → step s = .next
      { s with moves := rest, free := s.free + 1, flags := { s.flags with cmdRej := true } })

/-- R121, with R288 row 2: every opcode that the table does not name. -/
def Obligations.IllegalOpcodes : Prop :=
  (∀ v : Word, v.toNat % 256 ∉ [0x01, 0x02, 0x03, 0x04, 0x08, 0x09, 0x10, 0x11, 0x12, 0x18, 0x20, 0x21, 0x22, 0x30] →
    decodeCommand v = .cmdIllegal (BitVec.ofNat 8 v.toNat)) ∧
  ∀ (op : Byte) (s : State), ∃ t, exec (.cmdIllegal op) s = .next t ∧ s.postsOnly t .illegalCommand

/-- R39, R310, R311 and R312: what a reset leaves, in the terms of the register map and of the hidden state;
`RXQ` and `TXS_OUT` are kept. -/
def Obligations.ResetValues : Prop :=
  ∀ s : State, ∃ t, runMove .reset s = .next t ∧ t.rxq = s.rxq ∧ t.txOut = s.txOut ∧ t.moves = s.moves ∧
    (∀ r : Reg, t.regValue r = resetValue r) ∧
    t.addr = Address.replicate 0xAA ∧ t.pend = ⟨0, 0, false⟩ ∧ t.tx = ⟨.idle, .readAddress, 0, 0⟩ ∧
    t.sc = ⟨.off, 0, Address.replicate 0, 0, 0⟩ ∧ (∀ b : Buf, b ≠ .pbuf → t.validLen b = 0) ∧
    t.validLen .pbuf = 0 ∧ t.acc = 0 ∧ t.ctrl = ⟨false, false⟩ ∧ t.flags = ⟨false, false, false, false⟩

/-- R300: a tick changes nothing when the transaction machine is idle and the scanner is off or held. -/
def Obligations.IdleTickChangesNothing : Prop :=
  ∀ s : State, s.tx.txs = .idle → s.sc.scs = .off ∨ s.sc.scs = .dispatch → tick s = .next s

/-- The invariant holds right after reset. -/
def Obligations.InvariantAtReset : Prop := State.reset.Inv

/-- Every step keeps the invariant: the exclusion of the two machines (R88), the canonical form of the
buffers' list, the legal values of the registers (R31, R32), the counters' ranges (R35, R36). -/
def Obligations.InvariantKeptByStep : Prop :=
  ∀ s t : State, s.Inv → step s = .next t → t.Inv

/-- R78: no step reads from an empty queue, or stops for any other reason, in any state. -/
def Obligations.EveryStepHasANextState : Prop :=
  ∀ s : State, ∃ t, step s = .next t

end
end

