-- ==== Sys2Proof/Laws/State.lean ====
section
/-! SUPPORT. One lemma per field per update of the state, each true by `rfl`: what the named update makes
of the field, or that it leaves the field alone. -/

namespace Sys2Proof.Machine

variable (s : State)

/-! ### `setCsWarn` -/

@[simp] theorem State.setCsWarn_addr : s.setCsWarn.addr = s.addr := rfl
@[simp] theorem State.setCsWarn_pend : s.setCsWarn.pend = s.pend := rfl
@[simp] theorem State.setCsWarn_acc : s.setCsWarn.acc = s.acc := rfl
@[simp] theorem State.setCsWarn_tx : s.setCsWarn.tx = s.tx := rfl
@[simp] theorem State.setCsWarn_sc : s.setCsWarn.sc = s.sc := rfl
@[simp] theorem State.setCsWarn_ctrl : s.setCsWarn.ctrl = s.ctrl := rfl
@[simp] theorem State.setCsWarn_flags : s.setCsWarn.flags = { s.flags with csWarn := true } := rfl
@[simp] theorem State.setCsWarn_op : s.setCsWarn.op = s.op := rfl
@[simp] theorem State.setCsWarn_cfg : s.setCsWarn.cfg = s.cfg := rfl
@[simp] theorem State.setCsWarn_ibufLen : s.setCsWarn.ibufLen = s.ibufLen := rfl
@[simp] theorem State.setCsWarn_obufLen : s.setCsWarn.obufLen = s.obufLen := rfl
@[simp] theorem State.setCsWarn_res : s.setCsWarn.res = s.res := rfl
@[simp] theorem State.setCsWarn_ev : s.setCsWarn.ev = s.ev := rfl
@[simp] theorem State.setCsWarn_mem : s.setCsWarn.mem = s.mem := rfl
@[simp] theorem State.setCsWarn_rxq : s.setCsWarn.rxq = s.rxq := rfl
@[simp] theorem State.setCsWarn_txOut : s.setCsWarn.txOut = s.txOut := rfl
@[simp] theorem State.setCsWarn_moves : s.setCsWarn.moves = s.moves := rfl
@[simp] theorem State.setCsWarn_hostData : s.setCsWarn.hostData = s.hostData := rfl
@[simp] theorem State.setCsWarn_free : s.setCsWarn.free = s.free := rfl

/-! ### `setFrameErr` -/

@[simp] theorem State.setFrameErr_addr : s.setFrameErr.addr = s.addr := rfl
@[simp] theorem State.setFrameErr_pend : s.setFrameErr.pend = s.pend := rfl
@[simp] theorem State.setFrameErr_acc : s.setFrameErr.acc = s.acc := rfl
@[simp] theorem State.setFrameErr_tx : s.setFrameErr.tx = s.tx := rfl
@[simp] theorem State.setFrameErr_sc : s.setFrameErr.sc = s.sc := rfl
@[simp] theorem State.setFrameErr_ctrl : s.setFrameErr.ctrl = s.ctrl := rfl
@[simp] theorem State.setFrameErr_flags : s.setFrameErr.flags = { s.flags with frameErr := true } := rfl
@[simp] theorem State.setFrameErr_op : s.setFrameErr.op = s.op := rfl
@[simp] theorem State.setFrameErr_cfg : s.setFrameErr.cfg = s.cfg := rfl
@[simp] theorem State.setFrameErr_ibufLen : s.setFrameErr.ibufLen = s.ibufLen := rfl
@[simp] theorem State.setFrameErr_obufLen : s.setFrameErr.obufLen = s.obufLen := rfl
@[simp] theorem State.setFrameErr_res : s.setFrameErr.res = s.res := rfl
@[simp] theorem State.setFrameErr_ev : s.setFrameErr.ev = s.ev := rfl
@[simp] theorem State.setFrameErr_mem : s.setFrameErr.mem = s.mem := rfl
@[simp] theorem State.setFrameErr_rxq : s.setFrameErr.rxq = s.rxq := rfl
@[simp] theorem State.setFrameErr_txOut : s.setFrameErr.txOut = s.txOut := rfl
@[simp] theorem State.setFrameErr_moves : s.setFrameErr.moves = s.moves := rfl
@[simp] theorem State.setFrameErr_hostData : s.setFrameErr.hostData = s.hostData := rfl
@[simp] theorem State.setFrameErr_free : s.setFrameErr.free = s.free := rfl

/-! ### `setCmdRej` -/

@[simp] theorem State.setCmdRej_addr : s.setCmdRej.addr = s.addr := rfl
@[simp] theorem State.setCmdRej_pend : s.setCmdRej.pend = s.pend := rfl
@[simp] theorem State.setCmdRej_acc : s.setCmdRej.acc = s.acc := rfl
@[simp] theorem State.setCmdRej_tx : s.setCmdRej.tx = s.tx := rfl
@[simp] theorem State.setCmdRej_sc : s.setCmdRej.sc = s.sc := rfl
@[simp] theorem State.setCmdRej_ctrl : s.setCmdRej.ctrl = s.ctrl := rfl
@[simp] theorem State.setCmdRej_flags : s.setCmdRej.flags = { s.flags with cmdRej := true } := rfl
@[simp] theorem State.setCmdRej_op : s.setCmdRej.op = s.op := rfl
@[simp] theorem State.setCmdRej_cfg : s.setCmdRej.cfg = s.cfg := rfl
@[simp] theorem State.setCmdRej_ibufLen : s.setCmdRej.ibufLen = s.ibufLen := rfl
@[simp] theorem State.setCmdRej_obufLen : s.setCmdRej.obufLen = s.obufLen := rfl
@[simp] theorem State.setCmdRej_res : s.setCmdRej.res = s.res := rfl
@[simp] theorem State.setCmdRej_ev : s.setCmdRej.ev = s.ev := rfl
@[simp] theorem State.setCmdRej_mem : s.setCmdRej.mem = s.mem := rfl
@[simp] theorem State.setCmdRej_rxq : s.setCmdRej.rxq = s.rxq := rfl
@[simp] theorem State.setCmdRej_txOut : s.setCmdRej.txOut = s.txOut := rfl
@[simp] theorem State.setCmdRej_moves : s.setCmdRej.moves = s.moves := rfl
@[simp] theorem State.setCmdRej_hostData : s.setCmdRej.hostData = s.hostData := rfl
@[simp] theorem State.setCmdRej_free : s.setCmdRej.free = s.free := rfl

/-! ### `clearSticky` -/

@[simp] theorem State.clearSticky_addr (v : Word) : (s.clearSticky v).addr = s.addr := rfl
@[simp] theorem State.clearSticky_pend (v : Word) : (s.clearSticky v).pend = s.pend := rfl
@[simp] theorem State.clearSticky_acc (v : Word) : (s.clearSticky v).acc = s.acc := rfl
@[simp] theorem State.clearSticky_tx (v : Word) : (s.clearSticky v).tx = s.tx := rfl
@[simp] theorem State.clearSticky_sc (v : Word) : (s.clearSticky v).sc = s.sc := rfl
@[simp] theorem State.clearSticky_ctrl (v : Word) : (s.clearSticky v).ctrl = s.ctrl := rfl
@[simp] theorem State.clearSticky_flags (v : Word) : (s.clearSticky v).flags =
    { s.flags with
      csWarn := s.flags.csWarn && !v.getLsbD 4
      frameErr := s.flags.frameErr && !v.getLsbD 5
      cmdRej := s.flags.cmdRej && !v.getLsbD 6 } := rfl
@[simp] theorem State.clearSticky_op (v : Word) : (s.clearSticky v).op = s.op := rfl
@[simp] theorem State.clearSticky_cfg (v : Word) : (s.clearSticky v).cfg = s.cfg := rfl
@[simp] theorem State.clearSticky_ibufLen (v : Word) : (s.clearSticky v).ibufLen = s.ibufLen := rfl
@[simp] theorem State.clearSticky_obufLen (v : Word) : (s.clearSticky v).obufLen = s.obufLen := rfl
@[simp] theorem State.clearSticky_res (v : Word) : (s.clearSticky v).res = s.res := rfl
@[simp] theorem State.clearSticky_ev (v : Word) : (s.clearSticky v).ev = s.ev := rfl
@[simp] theorem State.clearSticky_mem (v : Word) : (s.clearSticky v).mem = s.mem := rfl
@[simp] theorem State.clearSticky_rxq (v : Word) : (s.clearSticky v).rxq = s.rxq := rfl
@[simp] theorem State.clearSticky_txOut (v : Word) : (s.clearSticky v).txOut = s.txOut := rfl
@[simp] theorem State.clearSticky_moves (v : Word) : (s.clearSticky v).moves = s.moves := rfl
@[simp] theorem State.clearSticky_hostData (v : Word) : (s.clearSticky v).hostData = s.hostData := rfl
@[simp] theorem State.clearSticky_free (v : Word) : (s.clearSticky v).free = s.free := rfl

/-! ### `memWrite` -/

@[simp] theorem State.memWrite_addr (b : Buf) (a : Nat) (l : List Byte) : (s.memWrite b a l).addr = s.addr := rfl
@[simp] theorem State.memWrite_pend (b : Buf) (a : Nat) (l : List Byte) : (s.memWrite b a l).pend = s.pend := rfl
@[simp] theorem State.memWrite_acc (b : Buf) (a : Nat) (l : List Byte) : (s.memWrite b a l).acc = s.acc := rfl
@[simp] theorem State.memWrite_tx (b : Buf) (a : Nat) (l : List Byte) : (s.memWrite b a l).tx = s.tx := rfl
@[simp] theorem State.memWrite_sc (b : Buf) (a : Nat) (l : List Byte) : (s.memWrite b a l).sc = s.sc := rfl
@[simp] theorem State.memWrite_ctrl (b : Buf) (a : Nat) (l : List Byte) : (s.memWrite b a l).ctrl = s.ctrl := rfl
@[simp] theorem State.memWrite_flags (b : Buf) (a : Nat) (l : List Byte) : (s.memWrite b a l).flags = s.flags := rfl
@[simp] theorem State.memWrite_op (b : Buf) (a : Nat) (l : List Byte) : (s.memWrite b a l).op = s.op := rfl
@[simp] theorem State.memWrite_cfg (b : Buf) (a : Nat) (l : List Byte) : (s.memWrite b a l).cfg = s.cfg := rfl
@[simp] theorem State.memWrite_ibufLen (b : Buf) (a : Nat) (l : List Byte) : (s.memWrite b a l).ibufLen = s.ibufLen := rfl
@[simp] theorem State.memWrite_obufLen (b : Buf) (a : Nat) (l : List Byte) : (s.memWrite b a l).obufLen = s.obufLen := rfl
@[simp] theorem State.memWrite_res (b : Buf) (a : Nat) (l : List Byte) : (s.memWrite b a l).res = s.res := rfl
@[simp] theorem State.memWrite_ev (b : Buf) (a : Nat) (l : List Byte) : (s.memWrite b a l).ev = s.ev := rfl
@[simp] theorem State.memWrite_mem (b : Buf) (a : Nat) (l : List Byte) : (s.memWrite b a l).mem = s.mem.storeList (b.base + a) l := rfl
@[simp] theorem State.memWrite_rxq (b : Buf) (a : Nat) (l : List Byte) : (s.memWrite b a l).rxq = s.rxq := rfl
@[simp] theorem State.memWrite_txOut (b : Buf) (a : Nat) (l : List Byte) : (s.memWrite b a l).txOut = s.txOut := rfl
@[simp] theorem State.memWrite_moves (b : Buf) (a : Nat) (l : List Byte) : (s.memWrite b a l).moves = s.moves := rfl
@[simp] theorem State.memWrite_hostData (b : Buf) (a : Nat) (l : List Byte) : (s.memWrite b a l).hostData = s.hostData := rfl
@[simp] theorem State.memWrite_free (b : Buf) (a : Nat) (l : List Byte) : (s.memWrite b a l).free = s.free := rfl

/-! ### `forgetBuf` -/

@[simp] theorem State.forgetBuf_addr (b : Buf) : (s.forgetBuf b).addr = s.addr := rfl
@[simp] theorem State.forgetBuf_pend (b : Buf) : (s.forgetBuf b).pend = s.pend := rfl
@[simp] theorem State.forgetBuf_acc (b : Buf) : (s.forgetBuf b).acc = s.acc := rfl
@[simp] theorem State.forgetBuf_tx (b : Buf) : (s.forgetBuf b).tx = s.tx := rfl
@[simp] theorem State.forgetBuf_sc (b : Buf) : (s.forgetBuf b).sc = s.sc := rfl
@[simp] theorem State.forgetBuf_ctrl (b : Buf) : (s.forgetBuf b).ctrl = s.ctrl := rfl
@[simp] theorem State.forgetBuf_flags (b : Buf) : (s.forgetBuf b).flags = s.flags := rfl
@[simp] theorem State.forgetBuf_op (b : Buf) : (s.forgetBuf b).op = s.op := rfl
@[simp] theorem State.forgetBuf_cfg (b : Buf) : (s.forgetBuf b).cfg = s.cfg := rfl
@[simp] theorem State.forgetBuf_ibufLen (b : Buf) : (s.forgetBuf b).ibufLen = s.ibufLen := rfl
@[simp] theorem State.forgetBuf_obufLen (b : Buf) : (s.forgetBuf b).obufLen = s.obufLen := rfl
@[simp] theorem State.forgetBuf_res (b : Buf) : (s.forgetBuf b).res = s.res := rfl
@[simp] theorem State.forgetBuf_ev (b : Buf) : (s.forgetBuf b).ev = s.ev := rfl
@[simp] theorem State.forgetBuf_mem (b : Buf) : (s.forgetBuf b).mem = s.mem.forget b.base b.size := rfl
@[simp] theorem State.forgetBuf_rxq (b : Buf) : (s.forgetBuf b).rxq = s.rxq := rfl
@[simp] theorem State.forgetBuf_txOut (b : Buf) : (s.forgetBuf b).txOut = s.txOut := rfl
@[simp] theorem State.forgetBuf_moves (b : Buf) : (s.forgetBuf b).moves = s.moves := rfl
@[simp] theorem State.forgetBuf_hostData (b : Buf) : (s.forgetBuf b).hostData = s.hostData := rfl
@[simp] theorem State.forgetBuf_free (b : Buf) : (s.forgetBuf b).free = s.free := rfl

/-! ### `writeObuf` -/

@[simp] theorem State.writeObuf_addr (l : List Byte) : (s.writeObuf l).addr = s.addr := rfl
@[simp] theorem State.writeObuf_pend (l : List Byte) : (s.writeObuf l).pend = s.pend := rfl
@[simp] theorem State.writeObuf_acc (l : List Byte) : (s.writeObuf l).acc = s.acc := rfl
@[simp] theorem State.writeObuf_tx (l : List Byte) : (s.writeObuf l).tx = s.tx := rfl
@[simp] theorem State.writeObuf_sc (l : List Byte) : (s.writeObuf l).sc = s.sc := rfl
@[simp] theorem State.writeObuf_ctrl (l : List Byte) : (s.writeObuf l).ctrl = s.ctrl := rfl
@[simp] theorem State.writeObuf_flags (l : List Byte) : (s.writeObuf l).flags = s.flags := rfl
@[simp] theorem State.writeObuf_op (l : List Byte) : (s.writeObuf l).op = s.op := rfl
@[simp] theorem State.writeObuf_cfg (l : List Byte) : (s.writeObuf l).cfg = s.cfg := rfl
@[simp] theorem State.writeObuf_ibufLen (l : List Byte) : (s.writeObuf l).ibufLen = s.ibufLen := rfl
@[simp] theorem State.writeObuf_obufLen (l : List Byte) : (s.writeObuf l).obufLen = BitVec.ofNat 9 l.length := rfl
@[simp] theorem State.writeObuf_res (l : List Byte) : (s.writeObuf l).res = s.res := rfl
@[simp] theorem State.writeObuf_ev (l : List Byte) : (s.writeObuf l).ev = s.ev := rfl
@[simp] theorem State.writeObuf_mem (l : List Byte) : (s.writeObuf l).mem = s.mem.storeList 0x1200 l := rfl
@[simp] theorem State.writeObuf_rxq (l : List Byte) : (s.writeObuf l).rxq = s.rxq := rfl
@[simp] theorem State.writeObuf_txOut (l : List Byte) : (s.writeObuf l).txOut = s.txOut := rfl
@[simp] theorem State.writeObuf_moves (l : List Byte) : (s.writeObuf l).moves = s.moves := rfl
@[simp] theorem State.writeObuf_hostData (l : List Byte) : (s.writeObuf l).hostData = s.hostData := rfl
@[simp] theorem State.writeObuf_free (l : List Byte) : (s.writeObuf l).free = s.free := rfl

/-! ### `rxClear` -/

@[simp] theorem State.rxClear_addr : s.rxClear.addr = s.addr := rfl
@[simp] theorem State.rxClear_pend : s.rxClear.pend = s.pend := rfl
@[simp] theorem State.rxClear_acc : s.rxClear.acc = s.acc := rfl
@[simp] theorem State.rxClear_tx : s.rxClear.tx = s.tx := rfl
@[simp] theorem State.rxClear_sc : s.rxClear.sc = s.sc := rfl
@[simp] theorem State.rxClear_ctrl : s.rxClear.ctrl = s.ctrl := rfl
@[simp] theorem State.rxClear_flags : s.rxClear.flags = s.flags := rfl
@[simp] theorem State.rxClear_op : s.rxClear.op = s.op := rfl
@[simp] theorem State.rxClear_cfg : s.rxClear.cfg = s.cfg := rfl
@[simp] theorem State.rxClear_ibufLen : s.rxClear.ibufLen = s.ibufLen := rfl
@[simp] theorem State.rxClear_obufLen : s.rxClear.obufLen = s.obufLen := rfl
@[simp] theorem State.rxClear_res : s.rxClear.res = s.res := rfl
@[simp] theorem State.rxClear_ev : s.rxClear.ev = s.ev := rfl
@[simp] theorem State.rxClear_mem : s.rxClear.mem = s.mem := rfl
@[simp] theorem State.rxClear_rxq : s.rxClear.rxq = [] := rfl
@[simp] theorem State.rxClear_txOut : s.rxClear.txOut = s.txOut := rfl
@[simp] theorem State.rxClear_moves : s.rxClear.moves = s.moves := rfl
@[simp] theorem State.rxClear_hostData : s.rxClear.hostData = s.hostData := rfl
@[simp] theorem State.rxClear_free : s.rxClear.free = s.free := rfl

/-! ### `txWrite` -/

@[simp] theorem State.txWrite_addr (l : List Byte) : (s.txWrite l).addr = s.addr := rfl
@[simp] theorem State.txWrite_pend (l : List Byte) : (s.txWrite l).pend = s.pend := rfl
@[simp] theorem State.txWrite_acc (l : List Byte) : (s.txWrite l).acc = s.acc := rfl
@[simp] theorem State.txWrite_tx (l : List Byte) : (s.txWrite l).tx = s.tx := rfl
@[simp] theorem State.txWrite_sc (l : List Byte) : (s.txWrite l).sc = s.sc := rfl
@[simp] theorem State.txWrite_ctrl (l : List Byte) : (s.txWrite l).ctrl = s.ctrl := rfl
@[simp] theorem State.txWrite_flags (l : List Byte) : (s.txWrite l).flags = s.flags := rfl
@[simp] theorem State.txWrite_op (l : List Byte) : (s.txWrite l).op = s.op := rfl
@[simp] theorem State.txWrite_cfg (l : List Byte) : (s.txWrite l).cfg = s.cfg := rfl
@[simp] theorem State.txWrite_ibufLen (l : List Byte) : (s.txWrite l).ibufLen = s.ibufLen := rfl
@[simp] theorem State.txWrite_obufLen (l : List Byte) : (s.txWrite l).obufLen = s.obufLen := rfl
@[simp] theorem State.txWrite_res (l : List Byte) : (s.txWrite l).res = s.res := rfl
@[simp] theorem State.txWrite_ev (l : List Byte) : (s.txWrite l).ev = s.ev := rfl
@[simp] theorem State.txWrite_mem (l : List Byte) : (s.txWrite l).mem = s.mem := rfl
@[simp] theorem State.txWrite_rxq (l : List Byte) : (s.txWrite l).rxq = s.rxq := rfl
@[simp] theorem State.txWrite_txOut (l : List Byte) : (s.txWrite l).txOut = s.txOut ++ l := rfl
@[simp] theorem State.txWrite_moves (l : List Byte) : (s.txWrite l).moves = s.moves := rfl
@[simp] theorem State.txWrite_hostData (l : List Byte) : (s.txWrite l).hostData = s.hostData := rfl
@[simp] theorem State.txWrite_free (l : List Byte) : (s.txWrite l).free = s.free := rfl

/-! ### `post` -/

@[simp] theorem State.post_addr (e : Status) : (s.post e).addr = s.addr := rfl
@[simp] theorem State.post_pend (e : Status) : (s.post e).pend = s.pend := rfl
@[simp] theorem State.post_acc (e : Status) : (s.post e).acc = s.acc := rfl
@[simp] theorem State.post_tx (e : Status) : (s.post e).tx = s.tx := rfl
@[simp] theorem State.post_sc (e : Status) : (s.post e).sc = s.sc := rfl
@[simp] theorem State.post_ctrl (e : Status) : (s.post e).ctrl = s.ctrl := rfl
@[simp] theorem State.post_flags (e : Status) : (s.post e).flags = { s.flags with rspValid := true } := rfl
@[simp] theorem State.post_op (e : Status) : (s.post e).op = s.op := rfl
@[simp] theorem State.post_cfg (e : Status) : (s.post e).cfg = s.cfg := rfl
@[simp] theorem State.post_ibufLen (e : Status) : (s.post e).ibufLen = s.ibufLen := rfl
@[simp] theorem State.post_obufLen (e : Status) : (s.post e).obufLen = s.obufLen := rfl
@[simp] theorem State.post_res (e : Status) : (s.post e).res = { s.res with status := e } := rfl
@[simp] theorem State.post_ev (e : Status) : (s.post e).ev = s.ev := rfl
@[simp] theorem State.post_mem (e : Status) : (s.post e).mem = s.mem := rfl
@[simp] theorem State.post_rxq (e : Status) : (s.post e).rxq = s.rxq := rfl
@[simp] theorem State.post_txOut (e : Status) : (s.post e).txOut = s.txOut := rfl
@[simp] theorem State.post_moves (e : Status) : (s.post e).moves = s.moves := rfl
@[simp] theorem State.post_hostData (e : Status) : (s.post e).hostData = s.hostData := rfl
@[simp] theorem State.post_free (e : Status) : (s.post e).free = s.free := rfl

/-! ### `resultLost` -/

@[simp] theorem State.resultLost_addr : s.resultLost.addr = s.addr := rfl
@[simp] theorem State.resultLost_pend : s.resultLost.pend = s.pend := rfl
@[simp] theorem State.resultLost_acc : s.resultLost.acc = s.acc := rfl
@[simp] theorem State.resultLost_tx : s.resultLost.tx = s.tx := rfl
@[simp] theorem State.resultLost_sc : s.resultLost.sc = s.sc := rfl
@[simp] theorem State.resultLost_ctrl : s.resultLost.ctrl = s.ctrl := rfl
@[simp] theorem State.resultLost_flags : s.resultLost.flags = s.flags := rfl
@[simp] theorem State.resultLost_op : s.resultLost.op = s.op := rfl
@[simp] theorem State.resultLost_cfg : s.resultLost.cfg = s.cfg := rfl
@[simp] theorem State.resultLost_ibufLen : s.resultLost.ibufLen = s.ibufLen := rfl
@[simp] theorem State.resultLost_obufLen : s.resultLost.obufLen = s.obufLen := rfl
@[simp] theorem State.resultLost_res : s.resultLost.res =
    { s.res with
      len := 0
      ctrl := (Config.freeWord s.free 0x10).setWidth 8
      tag := Config.freeWord s.free 0x18 } := rfl
@[simp] theorem State.resultLost_ev : s.resultLost.ev = s.ev := rfl
@[simp] theorem State.resultLost_mem : s.resultLost.mem = s.mem.forget 0x1500 255 := rfl
@[simp] theorem State.resultLost_rxq : s.resultLost.rxq = s.rxq := rfl
@[simp] theorem State.resultLost_txOut : s.resultLost.txOut = s.txOut := rfl
@[simp] theorem State.resultLost_moves : s.resultLost.moves = s.moves := rfl
@[simp] theorem State.resultLost_hostData : s.resultLost.hostData = s.hostData := rfl
@[simp] theorem State.resultLost_free : s.resultLost.free = s.free := rfl

/-! ### `obufLost` -/

@[simp] theorem State.obufLost_addr : s.obufLost.addr = s.addr := rfl
@[simp] theorem State.obufLost_pend : s.obufLost.pend = s.pend := rfl
@[simp] theorem State.obufLost_acc : s.obufLost.acc = s.acc := rfl
@[simp] theorem State.obufLost_tx : s.obufLost.tx = s.tx := rfl
@[simp] theorem State.obufLost_sc : s.obufLost.sc = s.sc := rfl
@[simp] theorem State.obufLost_ctrl : s.obufLost.ctrl = s.ctrl := rfl
@[simp] theorem State.obufLost_flags : s.obufLost.flags = s.flags := rfl
@[simp] theorem State.obufLost_op : s.obufLost.op = s.op := rfl
@[simp] theorem State.obufLost_cfg : s.obufLost.cfg = s.cfg := rfl
@[simp] theorem State.obufLost_ibufLen : s.obufLost.ibufLen = s.ibufLen := rfl
@[simp] theorem State.obufLost_obufLen : s.obufLost.obufLen = 0 := rfl
@[simp] theorem State.obufLost_res : s.obufLost.res = s.res := rfl
@[simp] theorem State.obufLost_ev : s.obufLost.ev = s.ev := rfl
@[simp] theorem State.obufLost_mem : s.obufLost.mem = s.mem.forget 0x1200 271 := rfl
@[simp] theorem State.obufLost_rxq : s.obufLost.rxq = s.rxq := rfl
@[simp] theorem State.obufLost_txOut : s.obufLost.txOut = s.txOut := rfl
@[simp] theorem State.obufLost_moves : s.obufLost.moves = s.moves := rfl
@[simp] theorem State.obufLost_hostData : s.obufLost.hostData = s.hostData := rfl
@[simp] theorem State.obufLost_free : s.obufLost.free = s.free := rfl

/-! ### `scanSleep` -/

@[simp] theorem State.scanSleep_addr : s.scanSleep.addr = s.addr := rfl
@[simp] theorem State.scanSleep_pend : s.scanSleep.pend = s.pend := rfl
@[simp] theorem State.scanSleep_acc : s.scanSleep.acc = s.acc := rfl
@[simp] theorem State.scanSleep_tx : s.scanSleep.tx = s.tx := rfl
@[simp] theorem State.scanSleep_sc : s.scanSleep.sc = { s.sc with scs := .sleep, cnt := 10 } := rfl
@[simp] theorem State.scanSleep_ctrl : s.scanSleep.ctrl = s.ctrl := rfl
@[simp] theorem State.scanSleep_flags : s.scanSleep.flags = s.flags := rfl
@[simp] theorem State.scanSleep_op : s.scanSleep.op = s.op := rfl
@[simp] theorem State.scanSleep_cfg : s.scanSleep.cfg = s.cfg := rfl
@[simp] theorem State.scanSleep_ibufLen : s.scanSleep.ibufLen = s.ibufLen := rfl
@[simp] theorem State.scanSleep_obufLen : s.scanSleep.obufLen = s.obufLen := rfl
@[simp] theorem State.scanSleep_res : s.scanSleep.res = s.res := rfl
@[simp] theorem State.scanSleep_ev : s.scanSleep.ev = s.ev := rfl
@[simp] theorem State.scanSleep_mem : s.scanSleep.mem = s.mem := rfl
@[simp] theorem State.scanSleep_rxq : s.scanSleep.rxq = s.rxq := rfl
@[simp] theorem State.scanSleep_txOut : s.scanSleep.txOut = s.txOut := rfl
@[simp] theorem State.scanSleep_moves : s.scanSleep.moves = s.moves := rfl
@[simp] theorem State.scanSleep_hostData : s.scanSleep.hostData = s.hostData := rfl
@[simp] theorem State.scanSleep_free : s.scanSleep.free = s.free := rfl

/-! ### `presentEvent` -/

@[simp] theorem State.presentEvent_addr (c : Byte) (g : Word) (l : List Byte) : (s.presentEvent c g l).addr = s.addr := rfl
@[simp] theorem State.presentEvent_pend (c : Byte) (g : Word) (l : List Byte) : (s.presentEvent c g l).pend = s.pend := rfl
@[simp] theorem State.presentEvent_acc (c : Byte) (g : Word) (l : List Byte) : (s.presentEvent c g l).acc = s.acc := rfl
@[simp] theorem State.presentEvent_tx (c : Byte) (g : Word) (l : List Byte) : (s.presentEvent c g l).tx = s.tx := rfl
@[simp] theorem State.presentEvent_sc (c : Byte) (g : Word) (l : List Byte) : (s.presentEvent c g l).sc = { s.sc with scs := .dispatch } := rfl
@[simp] theorem State.presentEvent_ctrl (c : Byte) (g : Word) (l : List Byte) : (s.presentEvent c g l).ctrl = s.ctrl := rfl
@[simp] theorem State.presentEvent_flags (c : Byte) (g : Word) (l : List Byte) : (s.presentEvent c g l).flags = s.flags := rfl
@[simp] theorem State.presentEvent_op (c : Byte) (g : Word) (l : List Byte) : (s.presentEvent c g l).op = s.op := rfl
@[simp] theorem State.presentEvent_cfg (c : Byte) (g : Word) (l : List Byte) : (s.presentEvent c g l).cfg = s.cfg := rfl
@[simp] theorem State.presentEvent_ibufLen (c : Byte) (g : Word) (l : List Byte) : (s.presentEvent c g l).ibufLen = s.ibufLen := rfl
@[simp] theorem State.presentEvent_obufLen (c : Byte) (g : Word) (l : List Byte) : (s.presentEvent c g l).obufLen = s.obufLen := rfl
@[simp] theorem State.presentEvent_res (c : Byte) (g : Word) (l : List Byte) : (s.presentEvent c g l).res = s.res := rfl
@[simp] theorem State.presentEvent_ev (c : Byte) (g : Word) (l : List Byte) : (s.presentEvent c g l).ev = ⟨c, g, BitVec.ofNat 8 l.length⟩ := rfl
@[simp] theorem State.presentEvent_mem (c : Byte) (g : Word) (l : List Byte) : (s.presentEvent c g l).mem = s.mem.storeList 0x1600 l := rfl
@[simp] theorem State.presentEvent_rxq (c : Byte) (g : Word) (l : List Byte) : (s.presentEvent c g l).rxq = s.rxq := rfl
@[simp] theorem State.presentEvent_txOut (c : Byte) (g : Word) (l : List Byte) : (s.presentEvent c g l).txOut = s.txOut := rfl
@[simp] theorem State.presentEvent_moves (c : Byte) (g : Word) (l : List Byte) : (s.presentEvent c g l).moves = s.moves := rfl
@[simp] theorem State.presentEvent_hostData (c : Byte) (g : Word) (l : List Byte) : (s.presentEvent c g l).hostData = s.hostData := rfl
@[simp] theorem State.presentEvent_free (c : Byte) (g : Word) (l : List Byte) : (s.presentEvent c g l).free = s.free := rfl

/-! ### `eventLost` -/

@[simp] theorem State.eventLost_addr : s.eventLost.addr = s.addr := rfl
@[simp] theorem State.eventLost_pend : s.eventLost.pend = s.pend := rfl
@[simp] theorem State.eventLost_acc : s.eventLost.acc = s.acc := rfl
@[simp] theorem State.eventLost_tx : s.eventLost.tx = s.tx := rfl
@[simp] theorem State.eventLost_sc : s.eventLost.sc = s.sc := rfl
@[simp] theorem State.eventLost_ctrl : s.eventLost.ctrl = s.ctrl := rfl
@[simp] theorem State.eventLost_flags : s.eventLost.flags = s.flags := rfl
@[simp] theorem State.eventLost_op : s.eventLost.op = s.op := rfl
@[simp] theorem State.eventLost_cfg : s.eventLost.cfg = s.cfg := rfl
@[simp] theorem State.eventLost_ibufLen : s.eventLost.ibufLen = s.ibufLen := rfl
@[simp] theorem State.eventLost_obufLen : s.eventLost.obufLen = s.obufLen := rfl
@[simp] theorem State.eventLost_res : s.eventLost.res = s.res := rfl
@[simp] theorem State.eventLost_ev : s.eventLost.ev =
    ⟨(Config.freeWord s.free 0x80).setWidth 8, Config.freeWord s.free 0x84,
      (Config.freeWord s.free 0x88).setWidth 8⟩ := rfl
@[simp] theorem State.eventLost_mem : s.eventLost.mem = s.mem.forget 0x1600 255 := rfl
@[simp] theorem State.eventLost_rxq : s.eventLost.rxq = s.rxq := rfl
@[simp] theorem State.eventLost_txOut : s.eventLost.txOut = s.txOut := rfl
@[simp] theorem State.eventLost_moves : s.eventLost.moves = s.moves := rfl
@[simp] theorem State.eventLost_hostData : s.eventLost.hostData = s.hostData := rfl
@[simp] theorem State.eventLost_free : s.eventLost.free = s.free := rfl

/-! ### `releaseEvent` -/

@[simp] theorem State.releaseEvent_addr : s.releaseEvent.addr = s.addr := rfl
@[simp] theorem State.releaseEvent_pend : s.releaseEvent.pend = s.pend := rfl
@[simp] theorem State.releaseEvent_acc : s.releaseEvent.acc = s.acc := rfl
@[simp] theorem State.releaseEvent_tx : s.releaseEvent.tx = s.tx := rfl
@[simp] theorem State.releaseEvent_sc : s.releaseEvent.sc = { s.sc with scs := .sleep, cnt := 10 } := rfl
@[simp] theorem State.releaseEvent_ctrl : s.releaseEvent.ctrl = s.ctrl := rfl
@[simp] theorem State.releaseEvent_flags : s.releaseEvent.flags = s.flags := rfl
@[simp] theorem State.releaseEvent_op : s.releaseEvent.op = s.op := rfl
@[simp] theorem State.releaseEvent_cfg : s.releaseEvent.cfg = s.cfg := rfl
@[simp] theorem State.releaseEvent_ibufLen : s.releaseEvent.ibufLen = s.ibufLen := rfl
@[simp] theorem State.releaseEvent_obufLen : s.releaseEvent.obufLen = s.obufLen := rfl
@[simp] theorem State.releaseEvent_res : s.releaseEvent.res = s.res := rfl
@[simp] theorem State.releaseEvent_ev : s.releaseEvent.ev =
    ⟨(Config.freeWord s.free 0x80).setWidth 8, Config.freeWord s.free 0x84,
      (Config.freeWord s.free 0x88).setWidth 8⟩ := rfl
@[simp] theorem State.releaseEvent_mem : s.releaseEvent.mem = s.mem.forget 0x1600 255 := rfl
@[simp] theorem State.releaseEvent_rxq : s.releaseEvent.rxq = s.rxq := rfl
@[simp] theorem State.releaseEvent_txOut : s.releaseEvent.txOut = s.txOut := rfl
@[simp] theorem State.releaseEvent_moves : s.releaseEvent.moves = s.moves := rfl
@[simp] theorem State.releaseEvent_hostData : s.releaseEvent.hostData = s.hostData := rfl
@[simp] theorem State.releaseEvent_free : s.releaseEvent.free = s.free := rfl

/-! ### `takeMove` -/

@[simp] theorem State.takeMove_addr (l : List Move) : (s.takeMove l).addr = s.addr := rfl
@[simp] theorem State.takeMove_pend (l : List Move) : (s.takeMove l).pend = s.pend := rfl
@[simp] theorem State.takeMove_acc (l : List Move) : (s.takeMove l).acc = s.acc := rfl
@[simp] theorem State.takeMove_tx (l : List Move) : (s.takeMove l).tx = s.tx := rfl
@[simp] theorem State.takeMove_sc (l : List Move) : (s.takeMove l).sc = s.sc := rfl
@[simp] theorem State.takeMove_ctrl (l : List Move) : (s.takeMove l).ctrl = s.ctrl := rfl
@[simp] theorem State.takeMove_flags (l : List Move) : (s.takeMove l).flags = s.flags := rfl
@[simp] theorem State.takeMove_op (l : List Move) : (s.takeMove l).op = s.op := rfl
@[simp] theorem State.takeMove_cfg (l : List Move) : (s.takeMove l).cfg = s.cfg := rfl
@[simp] theorem State.takeMove_ibufLen (l : List Move) : (s.takeMove l).ibufLen = s.ibufLen := rfl
@[simp] theorem State.takeMove_obufLen (l : List Move) : (s.takeMove l).obufLen = s.obufLen := rfl
@[simp] theorem State.takeMove_res (l : List Move) : (s.takeMove l).res = s.res := rfl
@[simp] theorem State.takeMove_ev (l : List Move) : (s.takeMove l).ev = s.ev := rfl
@[simp] theorem State.takeMove_mem (l : List Move) : (s.takeMove l).mem = s.mem := rfl
@[simp] theorem State.takeMove_rxq (l : List Move) : (s.takeMove l).rxq = s.rxq := rfl
@[simp] theorem State.takeMove_txOut (l : List Move) : (s.takeMove l).txOut = s.txOut := rfl
@[simp] theorem State.takeMove_moves (l : List Move) : (s.takeMove l).moves = l := rfl
@[simp] theorem State.takeMove_hostData (l : List Move) : (s.takeMove l).hostData = s.hostData := rfl
@[simp] theorem State.takeMove_free (l : List Move) : (s.takeMove l).free = s.free + 1 := rfl

end Sys2Proof.Machine
end

