-- ==== Sys2Proof/Laws/Memory.lean ====
section
/-! SUPPORT. What the buffer operations do, and that each keeps the canonical form. -/

namespace Sys2Proof.Machine

/-! ## Reading back -/

theorem Memory.lookup_store (m : Memory) (a c : Nat) (b : Byte) :
    (Memory.store m a b).lookup c = if a = c then some b else m.lookup c := by
  induction m with
  | nil => simp [Memory.store, Memory.lookup]
  | cons d m ih =>
    obtain ⟨k, x⟩ := d
    simp only [Memory.store]
    split
    · simp [Memory.lookup]
    · split
      · rename_i h; subst h; simp only [Memory.lookup]; split <;> simp_all
      · rename_i h
        simp only [Memory.lookup, ih]
        by_cases hk : k = c
        · have : a ≠ c := by omega
          simp [hk, this]
        · simp [hk]

theorem Memory.lookup_storeList (m : Memory) (a c : Nat) (bs : List Byte) :
    (Memory.storeList m a bs).lookup c =
      if a ≤ c ∧ c < a + bs.length then bs[c - a]? else m.lookup c := by
  induction bs generalizing m a with
  | nil => simp only [Memory.storeList, List.length_nil]; rw [if_neg (by omega)]
  | cons b bs ih =>
    simp only [Memory.storeList, ih, Memory.lookup_store, List.length_cons]
    by_cases h : a = c
    · subst h; simp
    · by_cases h2 : a + 1 ≤ c ∧ c < a + 1 + bs.length
      · rw [if_pos h2, if_pos (by omega), show c - a = (c - (a + 1)) + 1 by omega]; simp
      · rw [if_neg h2, if_neg h, if_neg (by omega)]

theorem Memory.lookup_forget (m : Memory) (a n c : Nat) :
    (m.forget a n).lookup c = if a ≤ c ∧ c < a + n then none else m.lookup c := by
  induction m with
  | nil => simp [Memory.forget, Memory.lookup]
  | cons d m ih =>
    obtain ⟨k, x⟩ := d
    have hf : Memory.forget ((k, x) :: m) a n =
        if a ≤ k ∧ k < a + n then Memory.forget m a n else (k, x) :: Memory.forget m a n := by
      simp only [Memory.forget, List.filter_cons]
      by_cases h1 : a ≤ k <;> by_cases h2 : k < a + n <;> simp [h1, h2]
    rw [hf]
    by_cases hk : a ≤ k ∧ k < a + n
    · rw [if_pos hk, ih]
      by_cases hc : a ≤ c ∧ c < a + n
      · simp [hc]
      · rw [if_neg hc, if_neg hc, Memory.lookup, if_neg (by omega)]
    · rw [if_neg hk]
      simp only [Memory.lookup, ih]
      by_cases hkc : k = c
      · subst hkc; simp [hk]
      · simp [hkc]

/-! ## The canonical form -/

theorem Memory.wf_iff (m : Memory) : m.wf = true ↔ m.Pairwise fun c d => c.1 < d.1 := by
  induction m with
  | nil => simp [Memory.wf]
  | cons c m ih =>
    cases m with
    | nil => simp [Memory.wf]
    | cons d m =>
      rw [Memory.wf, Bool.and_eq_true, ih, decide_eq_true_eq, List.pairwise_cons (a := c)]
      constructor
      · rintro ⟨h, hp⟩
        refine ⟨fun x hx => ?_, hp⟩
        rcases List.mem_cons.1 hx with rfl | hx
        · exact h
        · exact h.trans ((List.pairwise_cons.1 hp).1 x hx)
      · rintro ⟨h, hp⟩
        exact ⟨h d (by simp), hp⟩

theorem Memory.mem_store {m : Memory} {a : Nat} {b : Byte} {c : Host.Cell}
    (h : c ∈ Memory.store m a b) : c = (a, b) ∨ c ∈ m := by
  induction m with
  | nil => simpa [Memory.store] using h
  | cons d m ih =>
    obtain ⟨k, x⟩ := d
    simp only [Memory.store] at h
    split at h
    · simpa using h
    · split at h
      · rcases List.mem_cons.1 h with h | h
        · exact .inl h
        · exact .inr (by simp [h])
      · rcases List.mem_cons.1 h with h | h
        · exact .inr (by simp [h])
        · rcases ih h with h | h
          · exact .inl h
          · exact .inr (by simp [h])

theorem Memory.wf_store {m : Memory} (h : m.wf = true) (a : Nat) (b : Byte) :
    (Memory.store m a b).wf = true := by
  rw [Memory.wf_iff] at h ⊢
  induction m with
  | nil => simp [Memory.store]
  | cons d m ih =>
    obtain ⟨k, x⟩ := d
    have ⟨hd, hm⟩ := List.pairwise_cons.1 h
    simp only [Memory.store]
    split
    · rename_i hak
      refine List.pairwise_cons.2 ⟨fun c hc => ?_, h⟩
      rcases List.mem_cons.1 hc with rfl | hc
      · exact hak
      · have := hd c hc
        show a < c.1
        exact lt_trans hak this
    · split
      · rename_i hak
        subst hak
        exact List.pairwise_cons.2 ⟨hd, hm⟩
      · refine List.pairwise_cons.2 ⟨fun c hc => ?_, ih hm⟩
        rcases Memory.mem_store hc with rfl | hc
        · show k < a
          omega
        · exact hd c hc

theorem Memory.wf_storeList {m : Memory} (h : m.wf = true) (a : Nat) (bs : List Byte) :
    (Memory.storeList m a bs).wf = true := by
  induction bs generalizing m a with
  | nil => exact h
  | cons b bs ih => exact ih (Memory.wf_store h a b) (a + 1)

theorem Memory.wf_forget {m : Memory} (h : m.wf = true) (a n : Nat) : (m.forget a n).wf = true := by
  rw [Memory.wf_iff] at h ⊢
  exact h.filter _

theorem Memory.mem_storeList {m : Memory} {a : Nat} {bs : List Byte} {c : Host.Cell}
    (h : c ∈ Memory.storeList m a bs) : (a ≤ c.1 ∧ c.1 < a + bs.length) ∨ c ∈ m := by
  induction bs generalizing m a with
  | nil => exact .inr h
  | cons b bs ih =>
    rcases ih h with h | h
    · exact .inl (by simp only [List.length_cons]; omega)
    · rcases Memory.mem_store h with rfl | h
      · exact .inl (by simp)
      · exact .inr h

theorem Memory.mem_forget {m : Memory} {a n : Nat} {c : Host.Cell} (h : c ∈ m.forget a n) : c ∈ m :=
  List.mem_of_mem_filter h

/-! ## Bytes of a state -/

theorem State.byteAt_memWrite (s : State) (b : Buf) (i : Nat) (l : List Byte) (c : Nat)
    (h : ¬ (b.base + i ≤ c ∧ c < b.base + i + l.length)) : (s.memWrite b i l).byteAt c = s.byteAt c := by
  simp only [State.byteAt, State.memWrite_mem, Memory.lookup_storeList, if_neg h, State.unlistedByte,
    State.memWrite_free]

theorem State.byteAt_forgetBuf (s : State) (b : Buf) (c : Nat)
    (h : ¬ (b.base ≤ c ∧ c < b.base + b.size)) : (s.forgetBuf b).byteAt c = s.byteAt c := by
  simp only [State.byteAt, State.forgetBuf_mem, Memory.lookup_forget, if_neg h, State.unlistedByte,
    State.forgetBuf_free]

@[simp] theorem State.length_bytesAt (s : State) (a n : Nat) : (s.bytesAt a n).length = n := by
  induction n generalizing a with
  | zero => rfl
  | succ n ih => simp [State.bytesAt, ih]

theorem State.getElem?_bytesAt (s : State) (a n i : Nat) :
    (s.bytesAt a n)[i]? = if i < n then some (s.byteAt (a + i)) else none := by
  induction n generalizing a i with
  | zero => simp [State.bytesAt]
  | succ n ih =>
    cases i with
    | zero => simp [State.bytesAt]
    | succ i => simp only [State.bytesAt, List.getElem?_cons_succ, ih, Nat.add_lt_add_iff_right,
        show a + 1 + i = a + (i + 1) by omega]

/-- Two states that agree on a range of offsets read the same bytes there. -/
theorem State.bytesAt_congr {s t : State} {a n : Nat}
    (h : ∀ c, a ≤ c → c < a + n → s.byteAt c = t.byteAt c) : s.bytesAt a n = t.bytesAt a n := by
  apply List.ext_getElem?
  intro i
  simp only [State.getElem?_bytesAt]
  split
  · rw [h (a + i) (by omega) (by omega)]
  · rfl

/-- Bytes written are the bytes read back (R12). -/
theorem State.bytesAt_of_storeList {t : State} {m : Memory} {a : Nat} {l : List Byte}
    (h : t.mem = m.storeList a l) : t.bytesAt a l.length = l := by
  apply List.ext_getElem?
  intro i
  rw [State.getElem?_bytesAt]
  by_cases hi : i < l.length
  · simp [State.byteAt, h, Memory.lookup_storeList, hi]
  · simp [hi]

@[simp] theorem State.memRead_memWrite (s : State) (b : Buf) (a : Nat) (l : List Byte) :
    (s.memWrite b a l).memRead b a l.length = l :=
  State.bytesAt_of_storeList rfl

end Sys2Proof.Machine
end

