-- ==== Sys2Proof/Laws/Ops.lean ====
section
/-! SUPPORT. What the shared operations can do, said once for each: the transport's reads, the completion of
a command, the poll of a transaction, the steps of the scanner. -/

namespace Sys2Proof.Machine

/-! ## The transport port -/

theorem State.rxRead_cons {s : State} {b : Byte} {q : List Byte} (h : s.rxq = b :: q) :
    s.rxRead = .ok (b, { s with rxq := q }) := by
  simp [State.rxRead, h]

/-- `n` reads of a queue that holds `n` bytes give the oldest `n` and leave the others (R78, R87 (b)). -/
theorem State.rxReads_ok (s : State) (n : Nat) (h : n ≤ s.rxq.length) :
    s.rxReads n = .ok (s.rxq.take n, { s with rxq := s.rxq.drop n }) := by
  induction n generalizing s with
  | zero => simp [State.rxReads]
  | succ n ih =>
    cases hq : s.rxq with
    | nil => simp [hq] at h
    | cons b q =>
      have := ih { s with rxq := q } (by simpa [hq] using h)
      simp [State.rxReads, State.rxRead_cons hq, this]

/-- `n` reads of a shorter queue violate the precondition of `RxRead` (R78). -/
theorem State.rxReads_error (s : State) (n : Nat) (h : s.rxq.length < n) :
    s.rxReads n = .error .rxUnderflow := by
  induction n generalizing s with
  | zero => omega
  | succ n ih =>
    cases hq : s.rxq with
    | nil => simp [State.rxReads, State.rxRead, hq]
    | cons b q =>
      have := ih { s with rxq := q } (by simp [hq] at h; simpa using h)
      simp [State.rxReads, State.rxRead_cons hq, this]

/-- An arriving byte is appended while the queue has room, and dropped else (R81). -/
theorem State.rxArrive_cases (s : State) (b : Byte) :
    (s.rxq.length < Config.rxDepth ∧ s.rxArrive b = { s with rxq := s.rxq ++ [b] }) ∨
    (Config.rxDepth ≤ s.rxq.length ∧ s.rxArrive b = s) := by
  unfold State.rxArrive
  split
  · exact .inl ⟨‹_›, rfl⟩
  · exact .inr ⟨Nat.le_of_not_lt ‹_›, rfl⟩

theorem State.rxAvail_le (s : State) : s.rxAvail ≤ s.rxq.length := Nat.min_le_left _ _

theorem State.rxAvail_eq_zero (s : State) : s.rxAvail = 0 ↔ s.rxq = [] := by
  rw [State.rxAvail, ← List.length_eq_zero_iff]
  omega

/-- Below the saturation point availability is the queue's length (R77). -/
theorem State.le_rxAvail {s : State} {n : Nat} (h : n ≤ 65535) : n ≤ s.rxAvail ↔ n ≤ s.rxq.length := by
  rw [State.rxAvail]
  omega

/-- A transaction reads the oldest bytes, at most 512 of them (R203). -/
theorem State.min_rxAvail (s : State) : min s.rxAvail Config.ibufSize = min s.rxq.length 512 := by
  rw [State.rxAvail, Config.ibufSize]
  omega

/-! ## Completion -/

/-- A completed decode sets `RSP_VALID` (R290). -/
@[simp] theorem State.complete_flags (s : State) (r : Except Status Decoded) :
    (s.complete r).flags = { s.flags with rspValid := true } := by
  rcases r with e | (_ | _ | _) <;> rfl

/-- Only a decoded address reply changes the address store (R182, R187). -/
theorem State.complete_addr (s : State) (r : Except Status Decoded) :
    (s.complete r).addr = match r with
      | .ok (.addressReply _ a) => a
      | _ => s.addr := by
  rcases r with e | (_ | _ | _) <;> rfl

/-- `RES_STATUS` after a completed decode (R290). -/
@[simp] theorem State.complete_status (s : State) (r : Except Status Decoded) :
    (s.complete r).res.status = match r with
      | .ok _ => .ok
      | .error e => e := by
  rcases r with e | (_ | _ | _) <;> rfl

/-- What a completed decode makes of the memory: VBUF is written or forgotten (R188, R291). -/
theorem State.complete_mem (s : State) (r : Except Status Decoded) :
    (s.complete r).mem = match r with
      | .ok (.addressReply _ a) => s.mem.storeList 0x1500 a.bytes
      | .ok (.dataReply _ _ v) => s.mem.storeList 0x1500 v
      | .ok (.writeReply _ p) => s.mem.storeList 0x1500 p
      | .error _ => s.mem.forget 0x1500 255 := by
  rcases r with e | (_ | _ | _) <;> rfl

@[simp] theorem State.complete_pend (s : State) (r : Except Status Decoded) :
    (s.complete r).pend = s.pend := by
  rcases r with e | (_ | _ | _) <;> rfl

@[simp] theorem State.complete_acc (s : State) (r : Except Status Decoded) :
    (s.complete r).acc = s.acc := by
  rcases r with e | (_ | _ | _) <;> rfl

@[simp] theorem State.complete_tx (s : State) (r : Except Status Decoded) :
    (s.complete r).tx = s.tx := by
  rcases r with e | (_ | _ | _) <;> rfl

@[simp] theorem State.complete_sc (s : State) (r : Except Status Decoded) :
    (s.complete r).sc = s.sc := by
  rcases r with e | (_ | _ | _) <;> rfl

@[simp] theorem State.complete_ctrl (s : State) (r : Except Status Decoded) :
    (s.complete r).ctrl = s.ctrl := by
  rcases r with e | (_ | _ | _) <;> rfl

@[simp] theorem State.complete_op (s : State) (r : Except Status Decoded) :
    (s.complete r).op = s.op := by
  rcases r with e | (_ | _ | _) <;> rfl

@[simp] theorem State.complete_cfg (s : State) (r : Except Status Decoded) :
    (s.complete r).cfg = s.cfg := by
  rcases r with e | (_ | _ | _) <;> rfl

@[simp] theorem State.complete_ibufLen (s : State) (r : Except Status Decoded) :
    (s.complete r).ibufLen = s.ibufLen := by
  rcases r with e | (_ | _ | _) <;> rfl

@[simp] theorem State.complete_obufLen (s : State) (r : Except Status Decoded) :
    (s.complete r).obufLen = s.obufLen := by
  rcases r with e | (_ | _ | _) <;> rfl

@[simp] theorem State.complete_ev (s : State) (r : Except Status Decoded) :
    (s.complete r).ev = s.ev := by
  rcases r with e | (_ | _ | _) <;> rfl

@[simp] theorem State.complete_rxq (s : State) (r : Except Status Decoded) :
    (s.complete r).rxq = s.rxq := by
  rcases r with e | (_ | _ | _) <;> rfl

@[simp] theorem State.complete_txOut (s : State) (r : Except Status Decoded) :
    (s.complete r).txOut = s.txOut := by
  rcases r with e | (_ | _ | _) <;> rfl

@[simp] theorem State.complete_moves (s : State) (r : Except Status Decoded) :
    (s.complete r).moves = s.moves := by
  rcases r with e | (_ | _ | _) <;> rfl

@[simp] theorem State.complete_hostData (s : State) (r : Except Status Decoded) :
    (s.complete r).hostData = s.hostData := by
  rcases r with e | (_ | _ | _) <;> rfl

@[simp] theorem State.complete_free (s : State) (r : Except Status Decoded) :
    (s.complete r).free = s.free := by
  rcases r with e | (_ | _ | _) <;> rfl

/-! ## The end of a transaction -/

/-- `finish` flushes (R205). -/
@[simp] theorem State.finish_rxq (s : State) (r : Except Status Decoded) : (s.finish r).rxq = [] := by
  simp [State.finish]

@[simp] theorem State.finish_pend (s : State) (r : Except Status Decoded) :
    (s.finish r).pend = { s.pend with valid := false } := by
  simp [State.finish]

@[simp] theorem State.finish_tx (s : State) (r : Except Status Decoded) :
    (s.finish r).tx = { s.tx with txs := .idle } := by
  simp [State.finish]

@[simp] theorem State.finish_flags (s : State) (r : Except Status Decoded) :
    (s.finish r).flags = { s.flags with rspValid := true } := by
  simp [State.finish]

theorem State.finish_addr (s : State) (r : Except Status Decoded) :
    (s.finish r).addr = (s.complete r).addr := by
  rcases r with e | (_ | _ | _) <;> rfl

theorem State.finish_mem (s : State) (r : Except Status Decoded) :
    (s.finish r).mem = (s.complete r).mem := by
  rcases r with e | (_ | _ | _) <;> rfl

theorem State.finish_res (s : State) (r : Except Status Decoded) :
    (s.finish r).res = (s.complete r).res := by
  rcases r with e | (_ | _ | _) <;> rfl

@[simp] theorem State.finish_acc (s : State) (r : Except Status Decoded) :
    (s.finish r).acc = s.acc := by
  simp [State.finish]

@[simp] theorem State.finish_sc (s : State) (r : Except Status Decoded) :
    (s.finish r).sc = s.sc := by
  simp [State.finish]

@[simp] theorem State.finish_ctrl (s : State) (r : Except Status Decoded) :
    (s.finish r).ctrl = s.ctrl := by
  simp [State.finish]

@[simp] theorem State.finish_op (s : State) (r : Except Status Decoded) :
    (s.finish r).op = s.op := by
  simp [State.finish]

@[simp] theorem State.finish_cfg (s : State) (r : Except Status Decoded) :
    (s.finish r).cfg = s.cfg := by
  simp [State.finish]

@[simp] theorem State.finish_ibufLen (s : State) (r : Except Status Decoded) :
    (s.finish r).ibufLen = s.ibufLen := by
  simp [State.finish]

@[simp] theorem State.finish_obufLen (s : State) (r : Except Status Decoded) :
    (s.finish r).obufLen = s.obufLen := by
  simp [State.finish]

@[simp] theorem State.finish_ev (s : State) (r : Except Status Decoded) :
    (s.finish r).ev = s.ev := by
  simp [State.finish]

@[simp] theorem State.finish_txOut (s : State) (r : Except Status Decoded) :
    (s.finish r).txOut = s.txOut := by
  simp [State.finish]

@[simp] theorem State.finish_moves (s : State) (r : Except Status Decoded) :
    (s.finish r).moves = s.moves := by
  simp [State.finish]

@[simp] theorem State.finish_hostData (s : State) (r : Except Status Decoded) :
    (s.finish r).hostData = s.hostData := by
  simp [State.finish]

@[simp] theorem State.finish_free (s : State) (r : Except Status Decoded) :
    (s.finish r).free = s.free := by
  simp [State.finish]

/-- The read step never fails: it reads what is there, at most 512 bytes, and finishes with the decoder's
verdict (R203 to R205). -/
theorem State.finishRead_eq (s : State) :
    s.finishRead = .ok (State.finish
      { s with
        rxq := s.rxq.drop (min s.rxq.length 512)
        mem := s.mem.storeList 0x1000 (s.rxq.take (min s.rxq.length 512))
        ibufLen := BitVec.ofNat 10 (min s.rxq.length 512) }
      (decodeFrame (s.rxq.take (min s.rxq.length 512)) s.pend.func s.pend.tag s.addr)) := by
  have h : min s.rxq.length 512 ≤ s.rxq.length := Nat.min_le_left _ _
  rw [State.finishRead, State.min_rxAvail, State.rxReads_ok s _ h]
  simp [State.memWrite, Buf.base]

/-- A poll answers in one of three ways (R200). -/
theorem State.poll_cases (s : State) :
    (s.expectedLen ≤ s.rxAvail ∧ s.poll = s.finishRead) ∨
    (s.rxAvail < s.expectedLen ∧ s.cfg.timeoutMs.toNat ≤ s.tx.elapsed.toNat ∧ s.rxq ≠ [] ∧
      s.poll = s.finishRead) ∨
    (s.rxAvail < s.expectedLen ∧ s.cfg.timeoutMs.toNat ≤ s.tx.elapsed.toNat ∧ s.rxq = [] ∧
      s.poll = .ok s.finishTimeout) ∨
    (s.rxAvail < s.expectedLen ∧ s.tx.elapsed.toNat < s.cfg.timeoutMs.toNat ∧
      s.poll = .ok { s with tx := { s.tx with cnt := s.cfg.pollMs, txs := .wait } }) := by
  unfold State.poll
  by_cases h1 : s.expectedLen ≤ s.rxAvail
  · exact .inl ⟨h1, if_pos h1⟩
  · rw [if_neg h1]
    have h1' : s.rxAvail < s.expectedLen := by omega
    by_cases h2 : s.cfg.timeoutMs.toNat ≤ s.tx.elapsed.toNat
    · rw [if_pos h2]
      by_cases h3 : s.rxAvail = 0
      · exact .inr (.inr (.inl ⟨h1', h2, s.rxAvail_eq_zero.1 h3, if_pos h3⟩))
      · exact .inr (.inl ⟨h1', h2, fun h => h3 (s.rxAvail_eq_zero.2 h), if_neg h3⟩)
    · exact .inr (.inr (.inr ⟨h1', by omega, if_neg h2⟩))

/-- A poll never fails. -/
theorem State.poll_ok (s : State) : ∃ t, s.poll = .ok t := by
  rcases s.poll_cases with ⟨-, h⟩ | ⟨-, -, -, h⟩ | ⟨-, -, -, h⟩ | ⟨-, -, h⟩
  · exact ⟨_, h.trans s.finishRead_eq⟩
  · exact ⟨_, h.trans s.finishRead_eq⟩
  · exact ⟨_, h⟩
  · exact ⟨_, h⟩

/-- The engine's reaction to a tick never fails. -/
theorem State.txTick_ok (s : State) : ∃ t, s.txTick = .ok t := by
  unfold State.txTick
  split
  · dsimp only
    split
    · exact State.poll_ok _
    · exact ⟨_, rfl⟩
  · exact ⟨_, rfl⟩

/-! ## The scanner -/

/-- The body of a frame that is there is read, summed and classified (R235 to R237). -/
theorem State.scanBody_eq (s : State) (h : s.sc.len.toNat + 2 ≤ s.rxq.length) :
    s.scanBody = .ok
      (State.classify
        { s with
          rxq := s.rxq.drop (s.sc.len.toNat + 2)
          flags := { s.flags with
            csWarn := s.flags.csWarn || decide (checksum8 (Config.startByte :: s.sc.addr.bytes
              ++ [Config.startByte, s.sc.ctrl, s.sc.len] ++ s.rxq.take s.sc.len.toNat)
              ≠ s.rxq.getD s.sc.len.toNat 0) } }
        s.sc.ctrl ((s.rxq.take s.sc.len.toNat).map sub33)) := by
  have hd : (s.rxq.drop s.sc.len.toNat).length = s.rxq.length - s.sc.len.toNat := List.length_drop
  match hq : s.rxq.drop s.sc.len.toNat with
  | [] => rw [hq] at hd; simp at hd; omega
  | [_] => rw [hq] at hd; simp at hd; omega
  | cs :: e :: q =>
    have h1 : s.rxq.getD s.sc.len.toNat 0 = cs := by
      have := congrArg (·.getD 0 0) hq
      simpa [List.getD_eq_getElem?_getD] using this
    have h2 : s.rxq.drop (s.sc.len.toNat + 2) = q := by rw [← List.drop_drop, hq]; rfl
    rw [State.scanBody, State.rxReads_ok s _ (by omega)]
    simp only [hq, State.rxRead, h1, h2]
    generalize checksum8 (Config.startByte :: s.sc.addr.bytes
        ++ [Config.startByte, s.sc.ctrl, s.sc.len] ++ s.rxq.take s.sc.len.toNat) = k
    by_cases hc : k = cs
    · simp [hc]
    · simp [hc, State.setCsWarn]

/-- The body test reads the body or waits ten more ticks (R234). -/
theorem State.bodyCheck_cases (s : State) :
    (s.sc.len.toNat + 2 ≤ s.rxq.length ∧ s.bodyCheck = s.scanBody) ∨
    (s.rxq.length < s.sc.len.toNat + 2 ∧
      s.bodyCheck = .ok { s with sc := { s.sc with scs := .waitBody, cnt := 10 } }) := by
  have hl : s.sc.len.toNat + 2 ≤ 65535 := by have := s.sc.len.isLt; omega
  unfold State.bodyCheck
  by_cases h : s.sc.len.toNat + 2 ≤ s.rxq.length
  · exact .inl ⟨h, if_pos ((State.le_rxAvail hl).2 h)⟩
  · exact .inr ⟨by omega, if_neg fun h' => h ((State.le_rxAvail hl).1 h')⟩

theorem State.bodyCheck_ok (s : State) : ∃ t, s.bodyCheck = .ok t := by
  rcases s.bodyCheck_cases with ⟨h, e⟩ | ⟨-, e⟩
  · exact ⟨_, e.trans (s.scanBody_eq h)⟩
  · exact ⟨_, e⟩

/-- The scanner's cycle answers in one of four ways (R228 to R234). -/
theorem State.scanCycle_cases (s : State) :
    (s.rxq.length < 10 ∧ s.scanCycle = .ok s.scanSleep) ∨
    (10 ≤ s.rxq.length ∧ s.rxq.getD 0 0 ≠ 0x68 ∧
      s.scanCycle = .ok (State.scanSleep { s with rxq := s.rxq.drop 1 })) ∨
    (10 ≤ s.rxq.length ∧ s.rxq.getD 0 0 = 0x68 ∧ s.rxq.getD 7 0 ≠ 0x68 ∧
      s.scanCycle = .ok (State.scanSleep (State.setFrameErr { s with rxq := s.rxq.drop 8 }))) ∨
    (10 ≤ s.rxq.length ∧ s.rxq.getD 0 0 = 0x68 ∧ s.rxq.getD 7 0 = 0x68 ∧
      s.scanCycle = State.bodyCheck
        { s with
          rxq := s.rxq.drop 10
          sc := { s.sc with
            addr := Address.ofBytes (s.rxq.drop 1)
            ctrl := s.rxq.getD 8 0
            len := s.rxq.getD 9 0 } }) := by
  by_cases h : s.rxq.length < 10
  · refine .inl ⟨h, ?_⟩
    have := s.rxAvail_le
    rw [State.scanCycle, if_pos (show s.rxAvail < Config.hdrSpan by simp only [Config.hdrSpan]; omega)]
  · have h10 : ¬ s.rxAvail < Config.hdrSpan := by
      have := (State.le_rxAvail (s := s) (n := 10) (by omega)).2 (by omega)
      show ¬ s.rxAvail < 10
      omega
    obtain ⟨b0, b1, b2, b3, b4, b5, b6, b7, b8, b9, q, hq⟩ : ∃ b0 b1 b2 b3 b4 b5 b6 b7 b8 b9 q,
        s.rxq = b0 :: b1 :: b2 :: b3 :: b4 :: b5 :: b6 :: b7 :: b8 :: b9 :: q := by
      match s.rxq, h with
      | b0 :: b1 :: b2 :: b3 :: b4 :: b5 :: b6 :: b7 :: b8 :: b9 :: q, _ =>
        exact ⟨b0, b1, b2, b3, b4, b5, b6, b7, b8, b9, q, rfl⟩
      | [], h | [_], h | [_, _], h | [_, _, _], h | [_, _, _, _], h | [_, _, _, _, _], h
      | [_, _, _, _, _, _], h | [_, _, _, _, _, _, _], h | [_, _, _, _, _, _, _, _], h
      | [_, _, _, _, _, _, _, _, _], h => simp at h
    have e : s.scanCycle = if b0 ≠ 0x68
        then .ok (State.scanSleep { s with rxq := s.rxq.drop 1 })
        else State.scanHeader { s with rxq := s.rxq.drop 1 } := by
      rw [State.scanCycle, if_neg h10, State.rxRead_cons hq, hq]
      rfl
    have e' : State.scanHeader { s with rxq := s.rxq.drop 1 } = if b7 ≠ 0x68
        then .ok (State.scanSleep (State.setFrameErr { s with rxq := s.rxq.drop 8 }))
        else State.bodyCheck
          { s with
            rxq := s.rxq.drop 10
            sc := { s.sc with addr := Address.ofBytes (s.rxq.drop 1), ctrl := b8, len := b9 } } := by
      rw [State.scanHeader, State.rxReads_ok _ _ (by simp [hq])]
      simp only [hq]
      by_cases hs : b7 = 0x68
      · simp [hs, Config.startByte, State.rxReads, State.rxRead, Address.ofBytes]
      · have hs' : ¬ b7 = 104#8 := hs
        simp [hs', Config.startByte]
    have g : s.rxq.getD 0 0 = b0 ∧ s.rxq.getD 7 0 = b7 ∧ s.rxq.getD 8 0 = b8 ∧ s.rxq.getD 9 0 = b9 := by
      rw [hq]
      exact ⟨rfl, rfl, rfl, rfl⟩
    rw [g.1, g.2.1, g.2.2.1, g.2.2.2]
    by_cases hb : b0 = 0x68
    · rw [if_neg (by simpa using hb), e'] at e
      by_cases hs : b7 = 0x68
      · exact .inr (.inr (.inr ⟨by omega, hb, hs, e.trans (if_neg (by simpa using hs))⟩))
      · exact .inr (.inr (.inl ⟨by omega, hb, hs, e.trans (if_pos hs)⟩))
    · exact .inr (.inl ⟨by omega, hb, e.trans (if_pos hb)⟩)

theorem State.scanCycle_ok (s : State) : ∃ t, s.scanCycle = .ok t := by
  rcases s.scanCycle_cases with ⟨-, h⟩ | ⟨-, -, h⟩ | ⟨-, -, -, h⟩ | ⟨-, -, -, h⟩
  · exact ⟨_, h⟩
  · exact ⟨_, h⟩
  · exact ⟨_, h⟩
  · rw [h]
    exact State.bodyCheck_ok _

/-- The scanner's reaction to a tick never fails. -/
theorem State.scanTick_ok (s : State) : ∃ t, s.scanTick = .ok t := by
  unfold State.scanTick
  dsimp only
  split
  · exact ⟨_, rfl⟩
  · split
    · exact State.scanCycle_ok _
    · exact ⟨_, rfl⟩
  · split
    · exact State.bodyCheck_ok _
    · exact ⟨_, rfl⟩
  · exact ⟨_, rfl⟩

/-! ## The selected range -/

/-- The selected range is refused for the reserved selector, refused outside the valid bytes, or read (R143,
R261). -/
theorem State.selectedRange_cases (s : State) :
    (s.op.buffer? = none ∧ s.selectedRange = .error .invalidArgument) ∨
    ∃ b, s.op.buffer? = some b ∧
      ((s.validLen b < s.op.start.toNat + s.op.rangeLen.toNat ∧ s.selectedRange = .error .rangeError) ∨
      (s.op.start.toNat + s.op.rangeLen.toNat ≤ s.validLen b ∧
        s.selectedRange = .ok (s.memRead b s.op.start.toNat s.op.rangeLen.toNat))) := by
  unfold State.selectedRange
  cases h : s.op.buffer? with
  | none => exact .inl ⟨rfl, rfl⟩
  | some b =>
    refine .inr ⟨b, rfl, ?_⟩
    dsimp only
    by_cases hr : s.op.start.toNat + s.op.rangeLen.toNat > s.validLen b
    · exact .inl ⟨hr, if_pos hr⟩
    · exact .inr ⟨by omega, if_neg hr⟩

/-- The reset state's buffers are in canonical form. -/
theorem State.reset_mem_wf : State.reset.mem.wf = true := rfl

end Sys2Proof.Machine
end

