-- ==== Sys2Proof/Laws/PerInstr.lean ====
section
/-! SUPPORT. The size bounds of R116, instruction by instruction: how many bytes each well-formed
instruction's encoding has. -/

namespace Sys2Proof.Laws.FrameSize

/-- A word of `CMD` uses its low byte only; a frame of the encoder is 16 to 271 bytes long; a meter's frame
is 12 to 267; any frame has at least the eleven bytes from its first start byte through its checksum. -/
def Statement (i : Instr) : Prop :=
  i.wf = true → match encode i with
    | .command v => v.toNat < 256
    | .wire raw => 11 ≤ raw.length
    | .request raw => 16 ≤ raw.length ∧ raw.length ≤ 271
    | .reply raw | .event raw => 12 ≤ raw.length ∧ raw.length ≤ 267

theorem length_bytes (f : WireFrame) :
    f.bytes.length = f.lead.length + 11 + f.wire.length + f.tail.length := by
  simp [WireFrame.bytes, WireFrame.covered, Address.bytes]
  omega

theorem length_build (lead : List Byte) (a : Address) (c : Byte) (d : List Byte) :
    (WireFrame.build lead a c d).bytes.length = lead.length + 12 + d.length := by
  rw [length_bytes]
  simp [WireFrame.build]
  omega

theorem length_frame (a : Address) (c : Byte) (d : List Byte) :
    (Sys2Proof.frame a c d).length = 16 + d.length := by
  rw [Sys2Proof.frame, length_build]
  simp [leading, Config.leadCount]

theorem length_meterFrame (a : Address) (c : Byte) (d : List Byte) :
    (meterFrame a c d).length = 12 + d.length := by
  rw [meterFrame, length_build]
  simp

theorem length_le32 (t : Word) : (le32 t).length = 4 := rfl

/-- A meter's frame whose data the length byte can count is 12 to 267 bytes long. -/
theorem meterFrame_bounds (a : Address) (c : Byte) (d : List Byte) (h : fitsLength d = true) :
    12 ≤ (meterFrame a c d).length ∧ (meterFrame a c d).length ≤ 267 := by
  have := of_decide_eq_true h
  rw [length_meterFrame]
  omega

theorem csReset : Statement .csReset := fun _ => by simp [encode]
theorem csUpdate : Statement .csUpdate := fun _ => by simp [encode]
theorem csUpdateRange : Statement .csUpdateRange := fun _ => by simp [encode]
theorem csValue : Statement .csValue := fun _ => by simp [encode]
theorem xfAdd33 : Statement .xfAdd33 := fun _ => by simp [encode]
theorem xfSub33 : Statement .xfSub33 := fun _ => by simp [encode]
theorem encRead : Statement .encRead := fun _ => by simp [encode]
theorem encWrite : Statement .encWrite := fun _ => by simp [encode]
theorem decFrame : Statement .decFrame := fun _ => by simp [encode]
theorem bcdDecode : Statement .bcdDecode := fun _ => by simp [encode]
theorem txReadAddress : Statement .txReadAddress := fun _ => by simp [encode]
theorem txReadData : Statement .txReadData := fun _ => by simp [encode]
theorem txWriteData : Statement .txWriteData := fun _ => by simp [encode]
theorem evAck : Statement .evAck := fun _ => by simp [encode]

theorem cmdIllegal (op : Byte) : Statement (.cmdIllegal op) := fun _ => by
  simp [encode]
  omega

theorem frame (f : WireFrame) : Statement (.frame f) := fun _ => by
  simp [encode, length_bytes]
  omega

theorem reqReadData (a : Address) (t : Word) : Statement (.reqReadData a t) := fun _ => by
  simp [encode, encodeReadRequest, length_frame, length_le32]

theorem reqReadDataClearAlarm (a : Address) (t : Word) : Statement (.reqReadDataClearAlarm a t) := fun _ => by
  simp [encode, encodeReadRequest, length_frame, length_le32]

theorem reqReadAddress (a : Address) : Statement (.reqReadAddress a) := fun _ => by
  simp [encode, encodeReadRequest, length_frame]

theorem reqWriteData (a : Address) (t : Word) (pw oper p : List Byte) :
    Statement (.reqWriteData a t pw oper p) := fun h => by
  simp only [Instr.wf, Bool.and_eq_true, decide_eq_true_eq, Config.pbufSize] at h
  obtain ⟨⟨h1, h2⟩, h3⟩ := h
  have h3 := of_decide_eq_true h3
  simp [encode, encodeWriteRequest, h1, h2, Config.pbufSize, length_frame, length_le32, Nat.not_lt.2 h3]
  omega

theorem rspReadAddress (a : Address) (c : Byte) (d : List Byte) : Statement (.rspReadAddress a c d) :=
  fun h => meterFrame_bounds a c d (Bool.and_eq_true_iff.1 h).2

theorem rspReadData (a : Address) (d : List Byte) : Statement (.rspReadData a d) :=
  fun h => meterFrame_bounds a 0x91 d h

theorem rspReadDataError (a : Address) (d : List Byte) : Statement (.rspReadDataError a d) :=
  fun h => meterFrame_bounds a 0xD1 d h

theorem rspReadDataOtherDirection (a : Address) (c : Byte) (d : List Byte) :
    Statement (.rspReadDataOtherDirection a c d) :=
  fun h => meterFrame_bounds a c d (Bool.and_eq_true_iff.1 h).2

theorem rspWriteAck (a : Address) (d : List Byte) : Statement (.rspWriteAck a d) :=
  fun h => meterFrame_bounds a 0x94 d h

theorem rspWriteError (a : Address) (d : List Byte) : Statement (.rspWriteError a d) :=
  fun h => meterFrame_bounds a 0xD4 d h

theorem rspWriteOther (a : Address) (c : Byte) (d : List Byte) : Statement (.rspWriteOther a c d) :=
  fun h => meterFrame_bounds a c d (Bool.and_eq_true_iff.1 h).2

theorem rspUnknown (a : Address) (c : Byte) (d : List Byte) : Statement (.rspUnknown a c d) :=
  fun h => meterFrame_bounds a c d (Bool.and_eq_true_iff.1 h).2

theorem evtWriteReply (a : Address) (c : Byte) (d : List Byte) : Statement (.evtWriteReply a c d) :=
  fun h => meterFrame_bounds a c d (Bool.and_eq_true_iff.1 h).2

theorem evtTagged (a : Address) (c : Byte) (d : List Byte) : Statement (.evtTagged a c d) :=
  fun h => meterFrame_bounds a c d (Bool.and_eq_true_iff.1 h).2

end Sys2Proof.Laws.FrameSize
end

