-- ==== Sys2Proof/Tests/Slice0.lean ====
section
/-! SUPPORT. Tests: words written out from the spec's encodings, ill-formed terms, the spec's examples (each
test names its source), and a witness for the hypotheses of each statement that has any. -/

namespace Sys2Proof.Tests

open Sys2Proof Sys2Proof.Machine

/-! ## Small states -/

/-- A next state with the given property. -/
def look (o : Host.Outcome State Fault Refusal) (p : State → Bool) : Bool :=
  match o with
  | .next t => p t
  | .fault _ => false
  | .refused _ => false

/-- `RES_STATUS` of a next state. -/
def status : Host.Outcome State Fault Refusal → Option Status
  | .next t => some t.res.status
  | .fault _ => none
  | .refused _ => none

/-- The meter address of the spec's examples. -/
def meter : Address := ⟨0x78, 0x56, 0x34, 0x12, 0x00, 0x00⟩

/-- A byte list, written as numerals. -/
def bytesOf (l : List Byte) : List Byte := l

/-- One data byte more than a length byte counts. -/
def long : List Byte := List.replicate 256 0

/-- `OP_BYTE` holds a byte. -/
def operand (s : State) (b : Byte) : State := { s with op := { s.op with byte := b } }

/-- The reset state with a byte sequence in IBUF. -/
def input (l : List Byte) : State :=
  { State.reset.memWrite .ibuf 0 l with ibufLen := BitVec.ofNat 10 l.length }

/-- `OP_RANGE` and `OP_DP` 2. -/
def range (s : State) (sel : BitVec 2) (start : BitVec 16) (len : BitVec 9) : State :=
  { s with op := { s.op with bufSel := sel, start := start, rangeLen := len, dp := 2 } }

/-- The step that takes one move. -/
def take (s : State) (m : Move) : Host.Outcome State Fault Refusal := step { s with moves := [m] }

/-- The reset state with 5 in ACC. -/
def five : State := { State.reset with acc := 5 }

/-- Two bytes in IBUF, both selected. -/
def pair : State := range (input [0x12, 0x34]) 0 0 2

/-- `OP_FUNC` holds a function code. -/
def expect (f : Byte) (s : State) : State := { s with op := { s.op with func := f } }

/-- The operands of a request without a tag to the wildcard address. -/
def encoder (f : Byte) : State :=
  { State.reset with op := { State.reset.op with func := f, addrLo := 0xAAAAAAAA, addrHi := 0xAAAA } }

/-- The operands of a request with a tag. -/
def tagged (f : Byte) : State := { State.reset with op := { State.reset.op with func := f, hasTag := true } }

/-- The operands of the write request Q_W with a declared payload length. -/
def writer (n : Byte) : State :=
  { State.reset.memWrite .pbuf 0 [0x05] with
    op := { State.reset.op with
      func := 0x14, tag := 0x04000103, pw := 0x12345602, oper := 0x12345678, pwLen := 4, operLen := 4,
      plen := n, addrLo := 0x12345678 } }

/-- The operands of Q_W, the meter's address, and bytes queued. -/
def answered (q : List Byte) : State := { writer 1 with addr := meter, rxq := q }

/-- The meter's address is known, OP_TAG is T_E, and bytes are queued. -/
def known (q : List Byte) : State :=
  { State.reset with addr := meter, rxq := q, op := { State.reset.op with tag := 0x00010000 } }

/-- A read-address transaction in flight. -/
def waiting (cnt : BitVec 16) (elapsed : BitVec 17) (poll : BitVec 16) : State :=
  { State.reset with
    tx := ⟨.wait, .readAddress, elapsed, cnt⟩, pend := ⟨0x13, 0, true⟩
    cfg := { State.reset.cfg with pollMs := poll } }

/-- The reset state with a timeout budget. -/
def budget (n : BitVec 16) : State := { State.reset with cfg := { State.reset.cfg with timeoutMs := n } }

/-- A write request about to be sent with a timeout budget of `n`. -/
def quiet (n : BitVec 16) : State :=
  { (writer 0) with cfg := { State.reset.cfg with timeoutMs := n }, moves := [.regWrite 0x08 0x22] }

/-- R_ADDR in `RXQ`. -/
def queued (s : State) : State :=
  { s with rxq := [0x68, 0x78, 0x56, 0x34, 0x12, 0x00, 0x00, 0x68, 0x93, 0x06, 0xAB, 0x89, 0x67, 0x45, 0x33, 0x33,
    0xC3, 0x16] }

/-- A sleeping scanner with a listener and bytes queued. -/
def scan (cnt : BitVec 4) (q : List Byte) : State :=
  { State.reset with ctrl := ⟨true, true⟩, sc := ⟨.sleep, cnt, zeroAddress, 0, 0⟩, rxq := q }

/-- A scanner that waits for the body of a frame with `len` data bytes, without a listener. -/
def bodyWait (cnt : BitVec 4) (len : Byte) (q : List Byte) : State :=
  { State.reset with ctrl := ⟨true, false⟩, sc := ⟨.waitBody, cnt, meter, 0xD4, len⟩, rxq := q }

/-- A scanner held by an event. -/
def held (s : State) : State :=
  { s with ctrl := ⟨true, true⟩, sc := { s.sc with scs := .dispatch } }

/-! ## Decoding: words written out from the encodings of the spec -/

/-- R120: the fourteen opcodes, in CMD bits 7:0, and a few that are none of them (R121); bits 31:8 are
ignored. -/
theorem test_decode_commands :
    [0x01, 0x02, 0x03, 0x04, 0x08, 0x09, 0x10, 0x11, 0x12, 0x18, 0x20, 0x21, 0x22, 0xFFFFFF30, 0x00,
      0x13, 0x12345631].map decodeCommand
    = [.csReset, .csUpdate, .csUpdateRange, .csValue, .xfAdd33, .xfSub33, .encRead, .encWrite,
      .decFrame, .bcdDecode, .txReadAddress, .txReadData, .txWriteData, .evAck, .cmdIllegal 0x00,
      .cmdIllegal 0x13, .cmdIllegal 0x31] := by
  decide

/-- R101: the fields of Q_ADDR, the request of spec/95_test_vectors.md. -/
theorem test_decode_frame :
    decode (.wire [0xFE, 0xFE, 0xFE, 0xFE, 0x68, 0xAA, 0xAA, 0xAA, 0xAA, 0xAA, 0xAA, 0x68, 0x13, 0x00,
      0xDF, 0x16])
    = .ok (.frame ⟨[0xFE, 0xFE, 0xFE, 0xFE], Address.replicate 0xAA, 0x13, [], 0xDF, [0x16]⟩) := by
  decide

/-- The request Q_E (T-ENC-2). -/
theorem test_decode_req_read_data :
    decode (.request [0xFE, 0xFE, 0xFE, 0xFE, 0x68, 0x78, 0x56, 0x34, 0x12, 0x00, 0x00, 0x68, 0x11,
      0x04, 0x33, 0x33, 0x34, 0x33, 0xC6, 0x16])
    = .ok (.reqReadData ⟨0x78, 0x56, 0x34, 0x12, 0x00, 0x00⟩ 0x00010000) := by
  decide

/-- The request of T-ENC-4. -/
theorem test_decode_req_read_data_clear_alarm :
    decode (.request [0xFE, 0xFE, 0xFE, 0xFE, 0x68, 0x78, 0x56, 0x34, 0x12, 0x00, 0x00, 0x68, 0x12,
      0x04, 0x34, 0x48, 0x33, 0x37, 0xE0, 0x16])
    = .ok (.reqReadDataClearAlarm ⟨0x78, 0x56, 0x34, 0x12, 0x00, 0x00⟩ 0x04001501) := by
  decide

/-- The request Q_ADDR (T-ENC-1). -/
theorem test_decode_req_read_address :
    decode (.request [0xFE, 0xFE, 0xFE, 0xFE, 0x68, 0xAA, 0xAA, 0xAA, 0xAA, 0xAA, 0xAA, 0x68, 0x13,
      0x00, 0xDF, 0x16])
    = .ok (.reqReadAddress (Address.replicate 0xAA)) := by
  decide

/-- The request Q_W (T-ENC-6). -/
theorem test_decode_req_write_data :
    decode (.request [0xFE, 0xFE, 0xFE, 0xFE, 0x68, 0x78, 0x56, 0x34, 0x12, 0x00, 0x00, 0x68, 0x14,
      0x0D, 0x36, 0x34, 0x33, 0x37, 0x35, 0x89, 0x67, 0x45, 0xAB, 0x89, 0x67, 0x45, 0x38, 0x5B, 0x16])
    = .ok (.reqWriteData ⟨0x78, 0x56, 0x34, 0x12, 0x00, 0x00⟩ 0x04000103 [0x02, 0x56, 0x34,
      0x12] [0x78, 0x56, 0x34, 0x12] [0x05]) := by
  decide

/-- The reply R_ADDR. -/
theorem test_decode_rsp_read_address :
    decode (.reply [0x68, 0x78, 0x56, 0x34, 0x12, 0x00, 0x00, 0x68, 0x93, 0x06, 0xAB, 0x89, 0x67, 0x45,
      0x33, 0x33, 0xC3, 0x16])
    = .ok (.rspReadAddress ⟨0x78, 0x56, 0x34, 0x12, 0x00, 0x00⟩ 0x93 [0x78, 0x56, 0x34, 0x12, 0x00,
      0x00]) := by
  decide

/-- The reply R_E. -/
theorem test_decode_rsp_read_data :
    decode (.reply [0x68, 0x78, 0x56, 0x34, 0x12, 0x00, 0x00, 0x68, 0x91, 0x08, 0x33, 0x33, 0x34, 0x33,
      0xAB, 0x89, 0x67, 0x45, 0x2A, 0x16])
    = .ok (.rspReadData ⟨0x78, 0x56, 0x34, 0x12, 0x00, 0x00⟩ [0x00, 0x00, 0x01, 0x00, 0x78, 0x56, 0x34,
      0x12]) := by
  decide

/-- The reply R_ERR. -/
theorem test_decode_rsp_read_data_error :
    decode (.reply [0x68, 0x78, 0x56, 0x34, 0x12, 0x00, 0x00, 0x68, 0xD1, 0x01, 0x35, 0xEB, 0x16])
    = .ok (.rspReadDataError ⟨0x78, 0x56, 0x34, 0x12, 0x00, 0x00⟩ [0x02]) := by
  decide

/-- The reply of T-DEC-33, direction 0xA0. -/
theorem test_decode_rsp_read_data_other_direction :
    decode (.reply [0x68, 0x78, 0x56, 0x34, 0x12, 0x00, 0x00, 0x68, 0xB1, 0x06, 0x33, 0x33, 0x34, 0x33,
      0x38, 0x55, 0xF5, 0x16])
    = .ok (.rspReadDataOtherDirection ⟨0x78, 0x56, 0x34, 0x12, 0x00, 0x00⟩ 0xB1 [0x00, 0x00, 0x01,
      0x00, 0x05, 0x22]) := by
  decide

/-- The reply R_WOK. -/
theorem test_decode_rsp_write_ack :
    decode (.reply [0x68, 0x78, 0x56, 0x34, 0x12, 0x00, 0x00, 0x68, 0x94, 0x00, 0x78,
      0x16]) = .ok (.rspWriteAck ⟨0x78, 0x56, 0x34, 0x12, 0x00, 0x00⟩ []) := by
  decide

/-- The reply R_WERR. -/
theorem test_decode_rsp_write_error :
    decode (.reply [0x68, 0x78, 0x56, 0x34, 0x12, 0x00, 0x00, 0x68, 0xD4, 0x01, 0x37, 0xF0,
      0x16]) = .ok (.rspWriteError ⟨0x78, 0x56, 0x34, 0x12, 0x00, 0x00⟩ [0x04]) := by
  decide

/-- The frame of T-DEC-34. -/
theorem test_decode_rsp_write_other :
    decode (.reply [0x68, 0x78, 0x56, 0x34, 0x12, 0x00, 0x00, 0x68, 0x14, 0x04, 0x33, 0x33, 0x34, 0x33,
      0xC9, 0x16])
    = .ok (.rspWriteOther ⟨0x78, 0x56, 0x34, 0x12, 0x00, 0x00⟩ 0x14 [0x00, 0x00, 0x01, 0x00]) := by
  decide

/-- The frame of T-DEC-15. -/
theorem test_decode_rsp_unknown :
    decode (.reply [0x68, 0x78, 0x56, 0x34, 0x12, 0x00, 0x00, 0x68, 0x95, 0x00, 0x79,
      0x16]) = .ok (.rspUnknown ⟨0x78, 0x56, 0x34, 0x12, 0x00, 0x00⟩ 0x95 []) := by
  decide

/-- R_WERR at the scanner. -/
theorem test_decode_evt_write_reply :
    decode (.event [0x68, 0x78, 0x56, 0x34, 0x12, 0x00, 0x00, 0x68, 0xD4, 0x01, 0x37, 0xF0,
      0x16]) = .ok (.evtWriteReply ⟨0x78, 0x56, 0x34, 0x12, 0x00, 0x00⟩ 0xD4 [0x04]) := by
  decide

/-- R_Pbad at the scanner: its checksum byte is wrong, which is advisory (R236). -/
theorem test_decode_evt_tagged :
    decode (.event [0x68, 0x78, 0x56, 0x34, 0x12, 0x00, 0x00, 0x68, 0x91, 0x07, 0x33, 0x33, 0x36, 0x35,
      0x89, 0x67, 0x45, 0x7D, 0x16])
    = .ok (.evtTagged ⟨0x78, 0x56, 0x34, 0x12, 0x00, 0x00⟩ 0x91 [0x00, 0x00, 0x03, 0x02, 0x56, 0x34,
      0x12]) := by
  decide

/-- R172 to R175: no start byte; no second one; cut short; a wrong sum; a control code the encoder does
not make. -/
theorem test_decode_errors :
    decode (.reply [0xFE, 0xFE]) = .error .noStartByte
    ∧ decode (.reply [0x68, 0x78, 0x56, 0x34, 0x12, 0x00, 0x00, 0x69, 0x94, 0x00, 0x78,
      0x16]) = .error .noSecondStart
    ∧ decode (.reply [0x68, 0x78, 0x56, 0x34, 0x12, 0x00, 0x00]) = .error .noSecondStart
    ∧ decode (.reply [0x68, 0x78, 0x56, 0x34, 0x12, 0x00, 0x00, 0x68, 0x94, 0x00]) = .error .truncated
    ∧ decode (.reply [0x68, 0x78, 0x56, 0x34, 0x12, 0x00, 0x00, 0x68, 0x91, 0x07, 0x33, 0x33, 0x36,
      0x35, 0x89, 0x67, 0x45, 0x7D, 0x16]) = .error .badChecksum
    ∧ decode (.request [0x68, 0x78, 0x56, 0x34, 0x12, 0x00, 0x00, 0x68, 0x94, 0x00, 0x78,
      0x16]) = .error .notARequest := by
  decide

/-! ## The opcode table's words -/

/-- R120, R156, R157, R179 to R184: the row each table word decodes to (log 3 names the words that several
rows share). -/
theorem test_table_words :
    [0x01, 0x11, 0x12, 0x30, 0x05, 0x13, 0x14, 0x93, 0x91, 0xD1, 0xB1, 0x94, 0xD4,
      0xB4].map (decodeTableWord 8)
    = [some .csReset, some .encWrite, some .decFrame, some .evAck, some (.cmdIllegal 0x05),
      some (.reqReadAddress zeroAddress), some (.reqWriteData zeroAddress 0 [0, 0, 0, 0] [0, 0, 0,
      0] []), some (.rspReadAddress zeroAddress 0x93 []), some (.rspReadData zeroAddress []),
      some (.rspReadDataError zeroAddress []), some (.rspReadDataOtherDirection zeroAddress 0xB1 []),
      some (.rspWriteAck zeroAddress []), some (.rspWriteError zeroAddress []),
      some (.rspWriteOther zeroAddress 0xB4 [])] := by
  decide

/-- The first step after reset runs the word: an illegal command, a request, replies (R121, R156, R183,
R184). -/
theorem test_fetch_word :
    [0x05, 0x13, 0x14, 0x91, 0x94].map (fun w => status (step (State.reset.withFetchWord 8 w)))
    = [some .illegalCommand, some .ok, some .ok, some .addressMismatchError, some .ok] := by
  decide

/-! ## WellFormed: an ill-formed term for each check -/

/-- The opcodes of the table are no illegal commands. -/
theorem test_illformed_illegal :
    legalOpcodes.all (fun op => !(Instr.cmdIllegal op).wf) = true := by
  decide

/-- A start byte among the leading bytes; 256 data bytes. -/
theorem test_illformed_frame :
    (Instr.frame ⟨[0xFE, 0x68], zeroAddress, 0, [], 0, []⟩).wf = false
    ∧ (Instr.frame ⟨[], zeroAddress, 0, long, 0, []⟩).wf = false := by
  decide +kernel

/-- A password, an operator and a payload of the wrong length. -/
theorem test_illformed_write :
    (Instr.reqWriteData zeroAddress 0 [1, 2, 3] [1, 2, 3, 4] []).wf = false
    ∧ (Instr.reqWriteData zeroAddress 0 [1, 2, 3, 4] [1, 2, 3, 4, 5] []).wf = false
    ∧ (Instr.reqWriteData zeroAddress 0 [1, 2, 3, 4] [1, 2, 3,
      4] (List.replicate 244 0)).wf = false := by
  decide +kernel

/-- Control codes that belong to another reply row. -/
theorem test_illformed_reply_code :
    [Instr.rspReadAddress zeroAddress 0x91 [], .rspReadDataOtherDirection zeroAddress 0xB3 [],
      .rspReadDataOtherDirection zeroAddress 0x91 [], .rspReadDataOtherDirection zeroAddress 0xD1 [],
      .rspWriteOther zeroAddress 0x95 [], .rspWriteOther zeroAddress 0x94 [],
      .rspWriteOther zeroAddress 0xD4 [], .rspUnknown zeroAddress 0x11 [],
      .rspUnknown zeroAddress 0x93 [], .rspUnknown zeroAddress 0xD4 []].all
      (fun i => !i.wf) = true := by
  decide

/-- Control codes that belong to the other event row. -/
theorem test_illformed_event_code :
    [Instr.evtWriteReply zeroAddress 0x91 [], .evtTagged zeroAddress 0x94 [],
      .evtTagged zeroAddress 0xD4 []].all
      (fun i => !i.wf) = true := by
  decide

/-- 256 data bytes, which no length byte can count. -/
theorem test_illformed_length :
    [Instr.rspReadAddress zeroAddress 0x93 long, .rspReadData zeroAddress long,
      .rspReadDataError zeroAddress long, .rspReadDataOtherDirection zeroAddress 0xB1 long,
      .rspWriteAck zeroAddress long, .rspWriteError zeroAddress long,
      .rspWriteOther zeroAddress 0xB4 long, .rspUnknown zeroAddress 0x95 long,
      .evtWriteReply zeroAddress 0x94 long, .evtTagged zeroAddress 0x91 long].all
      (fun i => !i.wf) = true := by
  decide +kernel

/-! ## The instructions: the spec's examples, one step each -/

/-- R141: ACC 0x5C becomes 0. -/
theorem test_cs_reset :
    look (exec .csReset { State.reset with acc := 0x5C }) (fun t => t.acc == 0) := by
  decide

/-- R142: 0xF0 and 0x20 give 0x10; 0xFF and 0x01 give 0. -/
theorem test_cs_update :
    look (exec .csUpdate (operand { State.reset with acc := 0xF0 } 0x20)) (fun t => t.acc == 0x10)
    ∧ look (exec .csUpdate (operand { State.reset with acc := 0xFF } 0x01)) (fun t => t.acc == 0) := by
  decide

/-- R143: the header of Q_ADDR sums to 0xDF. -/
theorem test_cs_update_range :
    look (exec .csUpdateRange (range (input (bytesOf [0x68, 0xAA, 0xAA, 0xAA, 0xAA, 0xAA, 0xAA, 0x68,
      0x13, 0x00])) 0 0 10))
      (fun t => t.acc == 0xDF && t.res.status == .ok) := by
  decide

/-- R143: LEN 0 at START = n is legal, START above n is not. -/
theorem test_cs_update_range_edges :
    status (exec .csUpdateRange (range (input (bytesOf [0x12, 0x34])) 0 2 0)) = some .ok
    ∧ status (exec .csUpdateRange (range (input (bytesOf [0x12, 0x34])) 0 3 0)) = some .rangeError := by
  decide

/-- R144: ACC 0xDF gives RES_VAL 0xDF. -/
theorem test_cs_value :
    look (exec .csValue { State.reset with acc := 0xDF }) (fun t => t.res.val == 0xDF && t.acc == 0xDF) := by
  decide

/-- R152: 0x78 gives 0xAB, 0xCD wraps to 0. -/
theorem test_xf_add33 :
    look (exec .xfAdd33 (operand State.reset 0x78)) (fun t => t.res.val == 0xAB)
    ∧ look (exec .xfAdd33 (operand State.reset 0xCD)) (fun t => t.res.val == 0) := by
  decide

/-- R153: 0xAB gives 0x78, 0x00 wraps to 0xCD. -/
theorem test_xf_sub33 :
    look (exec .xfSub33 (operand State.reset 0xAB)) (fun t => t.res.val == 0x78)
    ∧ look (exec .xfSub33 (operand State.reset 0x00)) (fun t => t.res.val == 0xCD) := by
  decide

/-- R158: Q_ADDR. -/
theorem test_enc_read :
    look (exec .encRead (encoder 0x13)) (fun t => t.obufLen == 16 && t.bytesAt 0x1200 16 ==
      [0xFE, 0xFE, 0xFE, 0xFE, 0x68, 0xAA, 0xAA, 0xAA, 0xAA, 0xAA, 0xAA, 0x68, 0x13, 0x00, 0xDF,
      0x16]) := by
  decide

/-- R160: Q_W. -/
theorem test_enc_write :
    look (exec .encWrite (writer 1)) (fun t => t.obufLen == 29 && t.bytesAt 0x1200 29 ==
      [0xFE, 0xFE, 0xFE, 0xFE, 0x68, 0x78, 0x56, 0x34, 0x12, 0x00, 0x00, 0x68, 0x14, 0x0D, 0x36, 0x34,
      0x33, 0x37, 0x35, 0x89, 0x67, 0x45, 0xAB, 0x89, 0x67, 0x45, 0x38, 0x5B, 0x16]) := by
  decide

/-- R160: PLEN 243 is legal and 244 is not. -/
theorem test_enc_write_limit :
    status (exec .encWrite (writer 243)) = some .ok ∧ status (exec .encWrite (writer 244)) = some .invalidArgument := by
  decide +kernel

/-- R170, T-DEC-1: R_ADDR teaches the address. -/
theorem test_dec_frame :
    look (exec .decFrame (expect 0x13 (input [0x68, 0x78, 0x56, 0x34, 0x12, 0x00, 0x00, 0x68, 0x93,
      0x06, 0xAB, 0x89, 0x67, 0x45, 0x33, 0x33, 0xC3, 0x16])))
      (fun t => t.addr == meter && t.res.ctrl == 0x93 && t.res.len == 6) := by
  decide

/-- T-DEC-4: R_E under the wildcard address. -/
theorem test_dec_frame_address :
    status (exec .decFrame (expect 0x11 (input [0x68, 0x78, 0x56, 0x34, 0x12, 0x00, 0x00, 0x68, 0x91,
      0x08, 0x33, 0x33, 0x34, 0x33, 0xAB, 0x89, 0x67, 0x45, 0x2A,
      0x16]))) = some .addressMismatchError := by
  decide

/-- R260: 78 56 34 12 with DP 2 is 12 345 678. -/
theorem test_bcd_decode :
    look (exec .bcdDecode (range (input (bytesOf [0x78, 0x56, 0x34,
      0x12])) 0 0 4)) (fun t => t.res.mant == 12345678) := by
  decide

/-- T-BCD-10: eight 0xFF give the greatest mantissa of R267. -/
theorem test_bcd_greatest :
    look (exec .bcdDecode (range (input (List.replicate 8 0xFF)) 0 0 8)) (fun t => t.res.mant == 16666666666666665) := by
  decide

/-- R207: the request goes out and the poll sleeps. -/
theorem test_tx_read_address :
    look (exec .txReadAddress State.reset) (fun t => t.busy && t.tx.cnt == 100 && t.txOut ==
      [0xFE, 0xFE, 0xFE, 0xFE, 0x68, 0xAA, 0xAA, 0xAA, 0xAA, 0xAA, 0xAA, 0x68, 0x13, 0x00, 0xDF,
      0x16]) := by
  decide

/-- R208 and R200: a reply that is there already is taken in the start step. -/
theorem test_tx_read_data :
    look (exec .txReadData (known [0x68, 0x78, 0x56, 0x34, 0x12, 0x00, 0x00, 0x68, 0x91, 0x08, 0x33,
      0x33, 0x34, 0x33, 0xAB, 0x89, 0x67, 0x45, 0x2A, 0x16]))
      (fun t => t.res.status == .ok && t.bytesAt 0x1500 4 == [0x78, 0x56, 0x34,
      0x12] && t.rxq == []) := by
  decide

/-- R209: R_WOK answers the write. -/
theorem test_tx_write_data :
    look (exec .txWriteData (answered [0x68, 0x78, 0x56, 0x34, 0x12, 0x00, 0x00, 0x68, 0x94, 0x00,
      0x78, 0x16]))
      (fun t => t.res.status == .ok && t.res.ctrl == 0x94 && t.txOut.length == 29) := by
  decide

/-- R210: nothing is sent, the input is flushed. -/
theorem test_tx_write_data_invalid :
    look (exec .txWriteData { (writer 244) with rxq := [0x01] })
      (fun t => t.res.status == .invalidArgument && t.txOut == [] && t.rxq == []) := by
  decide

/-- R244. -/
theorem test_ev_ack :
    look (exec .evAck (held State.reset)) (fun t => t.sc.scs == .sleep && t.sc.cnt == 10 && t.res.status == .ok)
    ∧ status (exec .evAck State.reset) = some .illegalCommand := by
  decide

/-- R121. -/
theorem test_cmd_illegal :
    look (exec (.cmdIllegal 0xFF) State.reset) (fun t => t.res.status == .illegalCommand && t.flags.rspValid) := by
  decide

/-- R175: the row FRAME with a right and a wrong checksum byte. -/
theorem test_frame :
    status (exec (.frame ⟨[], meter, 0x94, [], 0x78, [0x16]⟩) (expect 0x14 State.reset)) = some .ok
    ∧ status (exec (.frame ⟨[], meter, 0x94, [], 0x79,
      [0x16]⟩) (expect 0x14 State.reset)) = some .checksumError := by
  decide

/-- T-ENC-2 and T-ENC-4: the bytes after the four leading ones and the length. -/
theorem test_req_read :
    look (exec (.reqReadData meter 0x00010000) State.reset) (fun t => t.bytesAt 0x1200 20 ==
      [0xFE, 0xFE, 0xFE, 0xFE, 0x68, 0x78, 0x56, 0x34, 0x12, 0x00, 0x00, 0x68, 0x11, 0x04, 0x33, 0x33,
      0x34, 0x33, 0xC6, 0x16])
    ∧ look (exec (.reqReadDataClearAlarm meter 0x04001501) State.reset) (fun t => t.bytesAt 0x1200 20 ==
      [0xFE, 0xFE, 0xFE, 0xFE, 0x68, 0x78, 0x56, 0x34, 0x12, 0x00, 0x00, 0x68, 0x12, 0x04, 0x34, 0x48,
      0x33, 0x37, 0xE0, 0x16])
    ∧ look (exec (.reqReadAddress (Address.replicate 0xAA)) State.reset) (fun t => t.obufLen == 16) := by
  decide

/-- T-ENC-6 and R157: a password of three bytes. -/
theorem test_req_write_data :
    look (exec (.reqWriteData meter 0x04000103 [0x02, 0x56, 0x34, 0x12] [0x78, 0x56, 0x34,
      0x12] [0x05]) State.reset)
      (fun t => t.bytesAt 0x1200 29 ==
      [0xFE, 0xFE, 0xFE, 0xFE, 0x68, 0x78, 0x56, 0x34, 0x12, 0x00, 0x00, 0x68, 0x14, 0x0D, 0x36, 0x34,
      0x33, 0x37, 0x35, 0x89, 0x67, 0x45, 0xAB, 0x89, 0x67, 0x45, 0x38, 0x5B, 0x16])
    ∧ status (exec (.reqWriteData meter 0x04000103 [0x02, 0x56, 0x34] [0x78, 0x56, 0x34,
      0x12] [0x05]) State.reset)
      = some .invalidArgument := by
  decide

/-- R182: five data bytes; copies that differ. -/
theorem test_rsp_read_address :
    status (exec (.rspReadAddress meter 0x93 [0x78, 0x56, 0x34, 0x12,
      0x00]) State.reset) = some .lengthOutOfRange
    ∧ status (exec (.rspReadAddress meter 0x93 [0x79, 0x56, 0x34, 0x12, 0x00,
      0x00]) State.reset) = some .addressMismatchError := by
  decide

/-- R183: thirteen data bytes; the tag echo. -/
theorem test_rsp_read_data :
    status (exec (.rspReadData meter [0, 0, 1, 0, 1, 2, 3, 4, 5, 6, 7, 8,
      9]) (known [])) = some .lengthOutOfRange
    ∧ status (exec (.rspReadData meter [0, 0, 2, 0, 1,
      2]) (known [])) = some .functionMismatchError := by
  decide

/-- R183: 0xD1 and direction 0xA0. -/
theorem test_rsp_read_data_error :
    status (exec (.rspReadDataError meter [0x02]) (known [])) = some .replyErrorIndicated
    ∧ status (exec (.rspReadDataOtherDirection meter 0xB1 [0, 0, 1, 0, 5,
      0x22]) (known [])) = some .functionMismatchError := by
  decide

/-- R184. -/
theorem test_rsp_write :
    look (exec (.rspWriteAck meter []) State.reset) (fun t => t.res.status == .ok && t.res.ctrl == 0x94)
    ∧ look (exec (.rspWriteError meter [0x04]) State.reset) (fun t => t.res.status == .ok && t.res.len == 1)
    ∧ status (exec (.rspWriteOther meter 0x14 []) State.reset) = some .functionMismatchError := by
  decide

/-- R179. -/
theorem test_rsp_unknown :
    status (exec (.rspUnknown meter 0x95 []) State.reset) = some .unknownFunction := by
  decide

/-- R240: tag 0 and the whole payload. -/
theorem test_evt_write_reply :
    look (exec (.evtWriteReply meter 0xD4 [0x04]) (scan 0 [])) (fun t => t.evValid && t.ev.tag == 0 && t.ev.len == 1) := by
  decide

/-- R239 and R240. -/
theorem test_evt_tagged :
    look (exec (.evtTagged meter 0x91 [0, 0, 3, 2,
      0x56]) (scan 0 [])) (fun t => t.ev.tag == 0x02030000 && t.ev.len == 1)
    ∧ look (exec (.evtTagged meter 0x91 [0, 0,
      3]) (scan 0 [])) (fun t => t.flags.frameErr && !t.evValid) := by
  decide

/-- T-SC: R_Pbad at the scanner is presented, with CS_WARN. -/
theorem test_scanner_advisory :
    look (tick (scan 1 [0x68, 0x78, 0x56, 0x34, 0x12, 0x00, 0x00, 0x68, 0x91, 0x07, 0x33, 0x33, 0x36,
      0x35, 0x89, 0x67, 0x45, 0x7D, 0x16]))
      (fun t => t.evValid && t.flags.csWarn && t.bytesAt 0x1600 3 == [0x56, 0x34,
      0x12] && t.rxq == []) := by
  decide

/-- R37: the reset column at a few registers; R38: an unmapped offset reads 0. -/
theorem test_reset_reads :
    [0x30, 0x34, 0x70, 0x74, 0x78, 0x2C, 0x7C].map State.reset.readRegAt
    = [0xAAAAAAAA, 0x0000AAAA, 500, 100, 0x000C1212, 0, 0] := by
  decide

/-- R31, R32: a field written 0 stores 1; IBUF_LEN above 512 stores 512. -/
theorem test_register_limits :
    (State.reset.writeReg .explen 0x00120000).cfg = ⟨500, 100, 1, 1, 18⟩
    ∧ (State.reset.writeReg .ibufLen 513).ibufLen = 512 ∧ (State.reset.writeReg .ibufLen 512).ibufLen = 512 := by
  decide

/-- R77 to R79: reads take the oldest bytes, a clear takes all. -/
theorem test_transport :
    ({ State.reset with rxq := [1, 2, 3] } : State).rxAvail = 3
    ∧ (({ State.reset with rxq := [1, 2, 3] } : State).rxClear).rxq = [] := by decide

/-! ## Witnesses: the hypotheses of the statements can be met -/

/-- Each legal opcode, alone and under high bits. -/
theorem witness_opcode_words :
    (0x01 : Word).toNat % 256 = 0x01 ∧ (0xFFFFFF02 : Word).toNat % 256 = 0x02 ∧ (0x03 : Word).toNat % 256 = 0x03
    ∧ (0x04 : Word).toNat % 256 = 0x04 ∧ (0x08 : Word).toNat % 256 = 0x08 ∧ (0x109 : Word).toNat % 256 = 0x09
    ∧ (0x10 : Word).toNat % 256 = 0x10 ∧ (0x11 : Word).toNat % 256 = 0x11 ∧ (0x12 : Word).toNat % 256 = 0x12
    ∧ (0x18 : Word).toNat % 256 = 0x18 ∧ (0x20 : Word).toNat % 256 = 0x20 ∧ (0x21 : Word).toNat % 256 = 0x21
    ∧ (0x22 : Word).toNat % 256 = 0x22 ∧ (0x30 : Word).toNat % 256 = 0x30 := by
  decide

/-- ChecksumIsSumModulo256: two bytes that differ. -/
theorem witness_ChecksumIsSumModulo256 :
    (0x12 : Byte) ≠ 0x13 := by
  decide

/-- CsUpdateRangeAddsSelectedBytes and BcdDecodeResult: a state for each clause (reserved selector; one
byte too many; exactly the valid bytes; nine of nine). -/
theorem witness_ranges :
    (range State.reset 3 0 0).op.bufSel = 3
    ∧ (range (input [0x12, 0x34]) 0 1 2).selected.2 < 1 + 2
    ∧ ¬ (range (input [0x12, 0x34]) 0 0 2).selected.2 < 0 + 2
    ∧ ¬ (range (input (List.replicate 9 0)) 0 0 9).selected.2 < 0 + 9 ∧ 8 < (range State.reset 0 0 9).op.rangeLen.toNat
    ∧ ¬ 8 < (range State.reset 0 0 8).op.rangeLen.toNat := by
  decide

/-- AccChangesOnlyByChecksumCommands: CS_RESET, CS_UPDATE and a reset change ACC. -/
theorem witness_AccChangesOnlyByChecksumCommands :
    look (take five (.regWrite 0x08 0x01)) (fun t => t.acc != 5)
    ∧ look (take (operand five 1) (.regWrite 0x08 0x02)) (fun t => t.acc != 5)
    ∧ look (take { pair with acc := 5 } (.regWrite 0x08 0x03)) (fun t => t.acc != 5)
    ∧ look (take five .reset) (fun t => t.acc != 5) := by
  decide

/-- FrameLayout, EncodedFrameIsRecovered and RspWriteArm: 255 data bytes. -/
theorem witness_FrameLayout :
    (List.replicate 255 (0 : Byte)).length ≤ 255 := by
  decide +kernel

/-- EncodersBuildFrames and RequestRowsBuildFrames: each clause, at its boundary. -/
theorem witness_EncodersBuildFrames :
    ([1, 2, 3] : List Byte).length ≠ 4 ∧ ([1, 2, 3, 4] : List Byte).length = 4
    ∧ 243 < (List.replicate 244 (0 : Byte)).length ∧ ¬ 243 < (List.replicate 243 (0 : Byte)).length := by
  decide +kernel

/-- EncWriteBuildsRequest, TxWriteDataStarts and TxWriteDataInvalidArgument: legal lengths at the limit, illegal
ones just above it. -/
theorem witness_lengths : (writer 243).lengthsGood ∧ ¬ (writer 244).lengthsGood ∧ (writer 243).sc.scs = .off := by
  unfold State.lengthsGood
  decide

/-- EncodeCommandsRunRequestRows: a state for each clause. -/
theorem witness_EncodeCommandsRunRequestRows :
    (tagged 0x11).op.func = 0x11 ∧ (tagged 0x11).op.hasTag = true ∧ (tagged 0x12).op.func = 0x12
    ∧ (tagged 0x12).op.hasTag = true ∧ (encoder 0x13).op.func = 0x13 ∧ (encoder 0x13).op.hasTag = false
    ∧ (writer 1).op.func = 0x14 ∧ (writer 1).lengthsGood := by
  unfold State.lengthsGood
  decide

/-- DecodeOfEncode: one well-formed instruction of every row that has a condition. -/
theorem witness_DecodeOfEncode :
    [Instr.csReset, .cmdIllegal 0x13, .frame ⟨[0xFE], meter, 0x94, [], 0x78, [0x16]⟩,
      .reqReadData meter 1, .reqReadDataClearAlarm meter 1, .reqReadAddress meter,
      .reqWriteData meter 1 [1, 2, 3, 4] [1, 2, 3, 4] (List.replicate 243 0),
      .rspReadAddress meter 0x13 [], .rspReadData meter (List.replicate 255 0),
      .rspReadDataError meter [], .rspReadDataOtherDirection meter 0x11 [], .rspWriteAck meter [],
      .rspWriteError meter [], .rspWriteOther meter 0x14 [], .rspUnknown meter 0x12 [],
      .evtWriteReply meter 0xD4 [], .evtTagged meter 0x11 []].all Instr.wf = true := by
  decide +kernel

/-- ParsedFrameIsTheSequence: R_WOK with two leading bytes. -/
theorem witness_ParsedFrameIsTheSequence :
    parseFrame [0xFE, 0xFE, 0x68, 0x78, 0x56, 0x34, 0x12, 0x00, 0x00, 0x68, 0x94, 0x00, 0x78, 0x16]
    = .ok ⟨[0xFE, 0xFE], meter, 0x94, [], 0x78, [0x16]⟩ := by
  decide

/-- NoErrorBecomesAMeasurement: a failure for each clause. -/
theorem witness_NoErrorBecomesAMeasurement :
    status (exec .decFrame State.reset) = some .framingError
    ∧ look (tick (waiting 1 500 100)) (fun t => t.tx.txs == .idle && t.res.status == .timeoutError)
    ∧ (waiting 1 500 100).tx.txs = .wait ∧ (waiting 1 500 100).sc.scs = .off
    ∧ look (exec .txReadData (budget 0)) (fun t => t.flags.rspValid && t.res.status == .timeoutError)
    ∧ (budget 0).flags.rspValid = false ∧ (budget 0).sc.scs = .off
    ∧ status (exec .bcdDecode (range State.reset 3 0 0)) = some .invalidArgument := by
  decide

/-- DecodeRunsReplyRows: a frame in IBUF outside a transaction; a frame of the expected class and one of
no class. -/
theorem witness_DecodeRunsReplyRows :
    (expect 0x14 (input [0x68, 0x78, 0x56, 0x34, 0x12, 0x00, 0x00, 0x68, 0x94, 0x00, 0x78,
      0x16])).pend.valid = false
    ∧ parseFrame ((input [0x68, 0x78, 0x56, 0x34, 0x12, 0x00, 0x00, 0x68, 0x94, 0x00, 0x78,
      0x16]).bytesAt 0x1000 12)
      = .ok ⟨[], meter, 0x94, [], 0x78, [0x16]⟩
    ∧ byteSum (WireFrame.covered ⟨[], meter, 0x94, [], 0x78, [0x16]⟩) % 256 = (0x78 : Byte).toNat
    ∧ (0x94 : Byte).toNat % 32 = (expect 0x14 State.reset).wantedFunc.toNat % 32
    ∧ byteSum (WireFrame.covered ⟨[], meter, 0x95, [], 0x79, [0x16]⟩) % 256 = (0x79 : Byte).toNat
    ∧ (0x95 : Byte).toNat % 32 ≠ 0x11 ∧ (0x95 : Byte).toNat % 32 ≠ 0x13 ∧ (0x95 : Byte).toNat % 32 ≠ 0x14 := by
  decide

/-- FrameRowIsDecoded: a well-formed frame of 255 data bytes. -/
theorem witness_FrameRowIsDecoded :
    (Instr.frame ⟨[0xFE], meter, 0x94, List.replicate 255 0, 0, []⟩).wf = true := by
  decide +kernel

/-- RspReadDataArm and RspWriteArm: control codes of the last clauses. -/
theorem witness_reply_codes :
    (0xB1 : Byte).toNat / 32 ≠ 4 ∧ (0xB1 : Byte).toNat / 32 ≠ 6 ∧ (0x14 : Byte) ≠ 0x94 ∧ (0x14 : Byte) ≠ 0xD4 := by
  decide

/-- BcdMantissaSumAndBounds: eight bytes, seven bytes, bytes of digits. -/
theorem witness_BcdMantissaSumAndBounds :
    (List.replicate 8 (0xFF : Byte)).length ≤ 8 ∧ (List.replicate 7 (0xFF : Byte)).length ≤ 7
    ∧ (∀ b ∈ [(0x99 : Byte), 0x12], b.toNat % 16 ≤ 9 ∧ b.toNat / 16 ≤ 9) := by
  decide

/-- MantissaChangesOnlyByBcdDecode: BCD_DECODE and a reset change it. -/
theorem witness_MantissaChangesOnlyByBcdDecode :
    look (take pair (.regWrite 0x08 0x18)) (fun t => t.res.mant != 0)
    ∧ look (take { State.reset with res := ⟨.ok, 0, 0, 0, 0, 7,
      0⟩ } .reset) (fun t => t.res.mant == 0) := by
  decide

/-- TransactionRefusedWhileScanning, and the three statements of a start. -/
theorem witness_scanner_states :
    (scan 10 []).sc.scs ≠ .off ∧ State.reset.sc.scs = .off := by
  decide

/-- TickInWait: a tick that polls and one that only counts. -/
theorem witness_TickInWait :
    (waiting 1 400 100).tx.txs = .wait ∧ (waiting 1 400 100).sc.scs = .off
    ∧ (waiting 1 499 100).tx.elapsed.toNat < (waiting 1 499 100).cfg.timeoutMs.toNat ∧ (waiting 1 400 100).tx.cnt = 1
    ∧ (waiting 2 0 100).tx.elapsed.toNat < (waiting 2 0 100).cfg.timeoutMs.toNat ∧ (waiting 2 0 100).tx.cnt ≠ 1 := by
  decide

/-- TimeoutAtExactTick: the reset values with TX_READ_ADDRESS, and a budget of 0 with TX_WRITE_DATA. -/
theorem witness_TimeoutAtExactTick :
    (State.reset.tx.txs = .idle ∧ State.reset.sc.scs = .off ∧ State.reset.rxq = [] ∧ State.reset.cfg.pollMs ≠ 0
      ∧ State.reset.cfg.expRdAddr ≠ 0 ∧ State.reset.cfg.expRdData ≠ 0 ∧ State.reset.cfg.expWrite ≠ 0
      ∧ (0x20 : Word).toNat % 256 = 0x20
      ∧ (State.reset.cfg.timeoutMs.toNat + State.reset.cfg.pollMs.toNat - 1) / State.reset.cfg.pollMs.toNat
        * State.reset.cfg.pollMs.toNat = 500
      ∧ ({ State.reset with moves := .regWrite 0x08 0x20 :: List.replicate 500 .tick } : State).moves
        = .regWrite 0x08 0x20 :: (List.replicate 500 .tick ++ []))
    ∧ (quiet 0).lengthsGood ∧ (quiet 0).cfg.timeoutMs = 0 ∧ (quiet 0).rxq = [] ∧ (quiet 0).tx.txs = .idle
    ∧ (quiet 0).moves = .regWrite 0x08 0x22 :: (List.replicate 0 .tick ++ []) := by
  unfold State.lengthsGood
  decide +kernel

/-- TransmittedBytesOnlyGrow: each of the three commands. -/
theorem witness_TransmittedBytesOnlyGrow :
    [(0x20 : Word), 0x21,
      0x22].all (fun v => look (step { (writer 0) with moves := [.regWrite 0x08 v] }) (fun t => t.txOut != [])) = true := by
  decide

/-- TransmittedBytesOnlyGrow: a queue with room, a full one. -/
theorem witness_arriving_byte :
    State.reset.rxq.length < Config.rxDepth
    ∧ ¬ ({ State.reset with rxq := List.replicate Config.rxDepth 0 } : State).rxq.length < Config.rxDepth :=
  ⟨Nat.lt_of_lt_of_le (by decide) (Nat.le_add_right 257 _), by rw [List.length_replicate]; exact Nat.lt_irrefl _⟩

/-- AddrChangesOnlyByReadAddressDecode: a decode, the start step of a transaction, its tick, a reset. -/
theorem witness_AddrChangesOnlyByReadAddressDecode :
    look (take (expect 0x13 (input [0x68, 0x78, 0x56, 0x34, 0x12, 0x00, 0x00, 0x68, 0x93, 0x06, 0xAB,
      0x89, 0x67, 0x45, 0x33, 0x33, 0xC3, 0x16])) (.regWrite 0x08 0x12))
      (fun t => t.addr == meter)
    ∧ look (take (queued (budget 0)) (.regWrite 0x08 0x20)) (fun t => t.addr == meter)
    ∧ look (take (queued (waiting 1 400 100)) .tick) (fun t => t.addr == meter)
    ∧ look (take { State.reset with addr := meter } .reset) (fun t => t.addr != meter) := by
  decide

/-- EvAckReleasesEvent: an event presented, none, and the CTRL write. -/
theorem witness_EvAckReleasesEvent :
    (held State.reset).sc.scs = .dispatch ∧ (held State.reset).ctrl.scanEn = true ∧ State.reset.sc.scs ≠ .dispatch
    ∧ (1 : Word).toNat % 4 = 1 ∧ (0xFFFFFFFD : Word).toNat % 4 = 1 := by
  decide

/-- The event rows: a sleeping, a waiting, a held and a switched-off scanner; with and without a listener;
four and three data bytes. -/
theorem witness_event_rows :
    (scan 1 []).sc.scs = .sleep ∧ (bodyWait 1 0 []).sc.scs = .waitBody ∧ (held State.reset).sc.scs = .dispatch
    ∧ State.reset.sc.scs = .off ∧ (scan 1 []).ctrl.listenerEn = true ∧ (bodyWait 1 0 []).ctrl.listenerEn = false
    ∧ ([1, 2, 3] : List Byte).length < 4 ∧ ¬ ([1, 2, 3, 4] : List Byte).length < 4 := by
  decide

/-- ScannerCycle: a counter at 2 and at 10; a body one byte short; a queue for each other clause, at its
boundary. -/
theorem witness_ScannerCycle :
    ((scan 2 []).tx.txs = .idle ∧ (scan 2 []).sc.scs = .sleep ∧ 2 ≤ (scan 2 []).sc.cnt.toNat)
    ∧ ((bodyWait 10 1 []).tx.txs = .idle ∧ (bodyWait 10 1 []).sc.scs = .waitBody ∧ 2 ≤ (bodyWait 10 1 []).sc.cnt.toNat)
    ∧ ((bodyWait 1 1 [0x37, 0xF0]).scanDue .waitBody
      ∧ (bodyWait 1 1 [0x37, 0xF0]).rxq.length < (bodyWait 1 1 [0x37, 0xF0]).sc.len.toNat + 2) ∧
    (∀ q, (scan 1 q).scanDue .sleep) ∧ (List.replicate 9 (0x68 : Byte)).length < 10
    ∧ 10 ≤ (List.replicate 10 (0xFE : Byte)).length ∧ (List.replicate 10 (0xFE : Byte)).getD 0 0 ≠ 0x68
    ∧ ([0x68, 1, 2, 3, 4, 5, 6, 7, 8, 9] : List Byte).getD 0 0 = 0x68
    ∧ ([0x68, 1, 2, 3, 4, 5, 6, 7, 8, 9] : List Byte).getD 7 0 ≠ 0x68
    ∧ ([0x68, 1, 2, 3, 4, 5, 6, 0x68, 0x91, 0, 1] : List Byte).getD 7 0 = 0x68
    ∧ ([0x68, 1, 2, 3, 4, 5, 6, 0x68, 0x91, 0, 1] : List Byte).length < 12 + (0 : Byte).toNat :=
  ⟨by decide, by decide, ⟨⟨rfl, rfl, rfl⟩, by decide⟩, fun _ => ⟨rfl, rfl, rfl⟩, by decide⟩

/-- ScannerRunsEventRow and ScannerChecksumIsAdvisory: R_WERR whole in the queue; its body in the queue. -/
theorem witness_ScannerRunsEventRow :
    (scan 1 [0x68, 0x78, 0x56, 0x34, 0x12, 0x00, 0x00, 0x68, 0xD4, 0x01, 0x37, 0xF0,
      0x16]).scanDue .sleep
    ∧ (scan 1 [0x68, 0x78, 0x56, 0x34, 0x12, 0x00, 0x00, 0x68, 0xD4, 0x01, 0x37, 0xF0, 0x16]).rxq
      = WireFrame.bytes ⟨[], meter, 0xD4, [0x37], 0xF0, [0x16]⟩
    ∧ (bodyWait 1 1 [0x37, 0xF0, 0x16]).scanDue .waitBody
    ∧ ([0x37] : List Byte).length = (bodyWait 1 1 [0x37, 0xF0, 0x16]).sc.len.toNat
    ∧ (bodyWait 1 1 [0x37, 0xF0, 0x16]).rxq = [0x37] ++ 0xF0 :: 0x16 :: [] ∧ (0xF0 : Byte) ≠ 0xF1 :=
  ⟨⟨rfl, rfl, rfl⟩, by decide, ⟨rfl, rfl, rfl⟩, by decide⟩

/-- ScannerMayWaitForever: one byte too few, three ticks. -/
theorem witness_ScannerMayWaitForever :
    (bodyWait 10 1 [0x37, 0xF0]).sc.scs = .waitBody ∧ (bodyWait 10 1 [0x37, 0xF0]).tx.txs = .idle
    ∧ 1 ≤ (bodyWait 10 1 [0x37, 0xF0]).sc.cnt.toNat ∧ (bodyWait 10 1 [0x37, 0xF0]).sc.cnt.toNat ≤ 10
    ∧ (bodyWait 10 1 [0x37, 0xF0]).rxq.length < (bodyWait 10 1 [0x37, 0xF0]).sc.len.toNat + 2
    ∧ ({ (bodyWait 10 1 [0x37, 0xF0]) with moves := [.tick, .tick, .tick] } : State).moves
      = List.replicate 3 .tick ++ [] := by
  decide

/-- WriteLockWhileBusy and BufferWrites: a transaction in flight; the first and last bytes of IBUF and
PBUF; offsets just outside. -/
theorem witness_locks :
    (waiting 1 0 100).tx.txs = .wait ∧ Reg.cmd ∈ lockedRegs ∧ Reg.explen ∈ lockedRegs
    ∧ (0x1000 ≤ 0x1000 ∧ 0x11FF < 0x1200) ∧ (0x1400 ≤ 0x1400 ∧ 0x14F2 < 0x14F3)
    ∧ ¬ ((0x1000 ≤ 0x1200 ∧ 0x1200 < 0x1200) ∨ (0x1400 ≤ 0x1200 ∧ 0x1200 < 0x14F3))
    ∧ ¬ ((0x1000 ≤ 0x14F3 ∧ 0x14F3 < 0x1200) ∨ (0x1400 ≤ 0x14F3 ∧ 0x14F3 < 0x14F3)) := by
  decide

/-- ScanEnableWrites: a state and a value for each clause. -/
theorem witness_ScanEnableWrites :
    decide ((3 : Word).toNat % 2 = 1) = true ∧ State.reset.ctrl.scanEn = false ∧ State.reset.tx.txs = .idle
    ∧ (waiting 1 0 100).ctrl.scanEn = false ∧ (waiting 1 0 100).tx.txs = .wait ∧ (waiting 1 0 100).sc.scs = .off
    ∧ decide ((2 : Word).toNat % 2 = 1) = State.reset.ctrl.scanEn ∧ decide ((2 : Word).toNat / 2 % 2 = 1) = true
    ∧ decide ((1 : Word).toNat % 2 = 1) = (scan 1 []).ctrl.scanEn ∧ (scan 1 []).sc.scs ≠ .dispatch
    ∧ decide ((0 : Word).toNat % 2 = 1) = false ∧ (held State.reset).ctrl.scanEn = true ∧ (scan 1 []).ctrl.scanEn = true := by
  decide

/-- RegisterReadBack: the open lock, an operand register, a read-only register, an unmapped offset. -/
theorem witness_RegisterReadBack :
    State.reset.tx.txs = .idle ∧ operandMask .opRange = some 0x31FFFFFF ∧ Reg.acc ∈ readOnlyRegs
    ∧ (∀ r : Reg, r.offset ≠ 0x7C) := by
  refine ⟨rfl, rfl, by decide, fun r => ?_⟩
  cases r <;> decide

/-- ReadsHaveNoSideEffect: a register's row, the address `meter` packed (R21), a status code (R275); an unmapped
offset of each space; the last valid byte; under BUSY a register that R33 leaves readable, one that it does not,
and a byte of PBUF. -/
theorem witness_ReadsHaveNoSideEffect :
    (0x30, 0x12345678) ∈ ({ State.reset with addr := meter } : State).registerTable
    ∧ (0x0C, 12) ∈ ({ State.reset with res := ⟨.rangeError, 0, 0, 0, 0, 0, 0⟩ } : State).registerTable
    ∧ 0x8C ∉ State.reset.registerTable.map Prod.fst ∧ Reg.acc.offset = 0x2C
    ∧ (input [0x12]).tx.txs = .idle ∧ (input [0x12]).validOffset 0x1000
    ∧ (∀ b : Buf, ¬ (b.base ≤ 0x16FF ∧ 0x16FF < b.base + b.size))
    ∧ (waiting 1 0 100).tx.txs = .wait ∧ 0x2C ∉ openWhileBusy.map Reg.offset ∧ Reg.acc ∉ openWhileBusy
    ∧ Reg.resLen ∈ openWhileBusy
    ∧ ({ (waiting 1 0 100) with op := (writer 1).op } : State).validOffset 0x1400 := by
  unfold State.validOffset
  refine ⟨by decide, by decide, by decide, rfl, rfl, by decide, fun b => ?_, by decide⟩
  cases b <;> decide

/-- R21 and R37: ADDR_LO and ADDR_HI of the address 78 56 34 12 00 9A, read at their offsets. -/
theorem test_read_address :
    look (take { State.reset with addr := ⟨0x78, 0x56, 0x34, 0x12, 0x00,
      0x9A⟩ } (.regRead 0x30)) (fun t => t.hostData == 0x12345678)
    ∧ look (take { State.reset with addr := ⟨0x78, 0x56, 0x34, 0x12, 0x00,
      0x9A⟩ } (.regRead 0x34)) (fun t => t.hostData == 0x9A00) := by
  decide

/-- R275: the codes, read at RES_STATUS. -/
theorem test_read_status_codes :
    [(Status.ok, (0x0 : Word)), (.framingError, 0x1), (.checksumError, 0x2), (.addressMismatchError,
      0x3), (.functionMismatchError, 0x4), (.replyErrorIndicated, 0x5), (.lengthOutOfRange, 0x6),
      (.timeoutError, 0x7), (.invalidArgument, 0x8), (.unknownFunction, 0x9), (.busy, 0xA),
      (.illegalCommand, 0xB), (.rangeError, 0xC)].all
      (fun p => look (take { State.reset with res := ⟨p.1, 0, 0, 0, 0, 0,
      0⟩ } (.regRead 0x0C)) (fun t => t.hostData == p.2)) = true := by
  decide

/-- StepRunsDecodedCommand: a command that is accepted and one that is not. -/
theorem witness_StepRunsDecodedCommand :
    ({ State.reset with moves := [.regWrite 0x08 0x01] } : State).moves = .regWrite 0x08 0x01 :: []
    ∧ State.reset.tx.txs = .idle ∧ decode (.command 0x01) = .ok .csReset
    ∧ ({ (waiting 1 0 100) with moves := [.regWrite 0x08 0x01] } : State).tx.txs = .wait := by
  decide

/-- IllegalOpcodes: the first and the last illegal opcode. -/
theorem witness_IllegalOpcodes :
    [(0x00 : Word), 0xFF].all (fun v => !([0x01, 0x02, 0x03, 0x04, 0x08, 0x09, 0x10, 0x11, 0x12, 0x18,
      0x20, 0x21, 0x22, 0x30].contains (v.toNat % 256))) = true := by
  decide

/-- IdleTickChangesNothing: the scanner off, the scanner held. -/
theorem witness_IdleTickChangesNothing :
    State.reset.tx.txs = .idle ∧ State.reset.sc.scs = .off
    ∧ (held State.reset).tx.txs = .idle ∧ (held State.reset).sc.scs = .dispatch := by
  decide

/-- InvariantKeptByStep: a state in T_WAIT with a byte in IBUF that has the invariant, and its step. -/
theorem witness_InvariantKeptByStep :
    ({ (waiting 7 200 100) with mem := [(0x1000, 0x68)], moves := [.tick] } : State).Inv
    ∧ look (step { (waiting 7 200 100) with mem := [(0x1000, 0x68)], moves := [.tick] }) (fun t => t.tx.cnt == 6) := by
  refine ⟨⟨rfl, ?_, ?_, ?_, ?_, ?_, ?_, ?_, ?_, ?_, ?_, ?_, ?_, Nat.zero_le _⟩, by decide⟩
  · intro c hc
    rw [List.mem_singleton.1 hc]
    decide
  all_goals decide

end Sys2Proof.Tests
end

/-! The host interface: the register map, the buffer map, the write lock, and the fields of a register
word. -/

namespace Sys2Proof.Machine

/-! ## The register map -/

theorem mem_allRegs (r : Reg) : r ∈ allRegs := by
  cases r <;> decide

@[simp] theorem regAt_offset (r : Reg) : regAt r.offset = some r := by
  cases r <;> rfl

/-- A register stands at one offset only (R37). -/
theorem regAt_eq_some_iff {off : Nat} {r : Reg} : regAt off = some r ↔ r.offset = off := by
  constructor
  · intro h
    simpa using List.find?_some h
  · rintro rfl
    exact regAt_offset r

/-- An offset is unmapped when no register stands there (R38). -/
theorem regAt_eq_none_iff {off : Nat} : regAt off = none ↔ ∀ r : Reg, r.offset ≠ off := by
  constructor
  · rintro h r rfl
    simp at h
  · intro h
    simp [regAt, h]

/-! ## The buffer map -/

theorem Buf.holds_iff {b : Buf} {off : Nat} :
    b.holds off = true ↔ b.base ≤ off ∧ off < b.base + b.size := by
  simp [Buf.holds]

/-- No two buffers overlap (R71). -/
theorem Buf.eq_of_holds {b c : Buf} {off : Nat} (hb : b.holds off = true) (hc : c.holds off = true) :
    b = c := by
  rw [Buf.holds_iff] at hb hc
  cases b <;> cases c
  case ibuf.ibuf | obuf.obuf | pbuf.pbuf | vbuf.vbuf | evbuf.evbuf => rfl
  all_goals
    simp only [Buf.base, Buf.size, Config.ibufSize, Config.obufSize, Config.pbufSize, Config.vbufSize,
      Config.evbufSize] at hb hc
    omega

/-- The buffer at an offset is the one whose range the offset lies in (R71). -/
theorem bufAt_eq_some_iff {off : Nat} {b : Buf} :
    bufAt off = some b ↔ b.base ≤ off ∧ off < b.base + b.size := by
  rw [← Buf.holds_iff]
  constructor
  · exact fun h => List.find?_some (p := (Buf.holds · off)) h
  · intro h
    have hs : (bufAt off).isSome = true := by
      rw [bufAt, List.find?_isSome]
      exact ⟨b, by cases b <;> simp, h⟩
    obtain ⟨c, hc⟩ := Option.isSome_iff_exists.1 hs
    rwa [Buf.eq_of_holds h (List.find?_some (p := (Buf.holds · off)) hc)]

/-- An offset is unmapped when it lies in no buffer (R74). -/
theorem bufAt_eq_none_iff {off : Nat} :
    bufAt off = none ↔ ∀ b : Buf, ¬ (b.base ≤ off ∧ off < b.base + b.size) := by
  simp only [Option.eq_none_iff_forall_ne_some, ne_eq, bufAt_eq_some_iff]

/-! ## The lock and the two machines -/

theorem State.busy_eq (s : State) : s.busy = decide (s.tx.txs ≠ .idle) := by
  cases h : s.tx.txs <;> simp [State.busy, h]

@[simp] theorem State.busy_eq_true_iff {s : State} : s.busy = true ↔ s.tx.txs = .wait := by
  simp [State.busy]

@[simp] theorem State.busy_eq_false_iff {s : State} : s.busy = false ↔ s.tx.txs = .idle := by
  simp [State.busy_eq]

@[simp] theorem State.scanActive_eq_false_iff {s : State} :
    s.scanActive = false ↔ s.sc.scs = .off := by
  simp [State.scanActive]

/-- A write under the lock is refused with `CMD_REJ` while a transaction is in flight (R33). -/
theorem State.unlessBusy_of_wait {s : State} (h : s.tx.txs = .wait) (t : State) :
    s.unlessBusy t = s.setCmdRej :=
  if_pos (State.busy_eq_true_iff.2 h)

/-- A write under the lock is done while none is in flight (R33). -/
theorem State.unlessBusy_of_idle {s : State} (h : s.tx.txs = .idle) (t : State) :
    s.unlessBusy t = t := by
  simp [State.unlessBusy, State.busy_eq_false_iff.2 h]

/-! ## Host writes as moves -/

/-- A write at the offset of a register other than `CMD` (R37). -/
theorem runMove_regWrite_offset {r : Reg} (h : r ≠ .cmd) (v : Word) (s : State) :
    runMove (.regWrite r.offset v) s = .next (s.writeReg r v) := by
  cases r
  case cmd => exact absurd rfl h
  all_goals rfl

/-- A write at an unmapped offset is ignored (R38). -/
theorem runMove_regWrite_unmapped {off : Nat} (h : ∀ r : Reg, r.offset ≠ off) (v : Word) (s : State) :
    runMove (.regWrite off v) s = .next s := by
  simp [runMove, hostWrite, regAt_eq_none_iff.2 h]

/-- With no transaction in flight a command runs, `RSP_VALID` being clear (R28, R288). -/
theorem acceptCommand_of_idle {s : State} (h : s.tx.txs = .idle) (v : Word) :
    acceptCommand v s =
      exec (decodeCommand v) { s with flags := { s.flags with rspValid := false } } := by
  simp [acceptCommand, State.busy_eq_false_iff.2 h]

/-- With a transaction in flight a command is refused (R28, R33). -/
theorem acceptCommand_of_wait {s : State} (h : s.tx.txs = .wait) (v : Word) :
    acceptCommand v s = .next s.setCmdRej := by
  simp [acceptCommand, State.busy_eq_true_iff.2 h]

/-- A write to a register that the lock covers, other than `CMD`, is refused while a transaction is in
flight (R33). -/
theorem State.writeReg_of_wait {s : State} (h : s.tx.txs = .wait) {r : Reg} (hr : r ∈ lockedRegs)
    (hc : r ≠ .cmd) (v : Word) : s.writeReg r v = s.setCmdRej := by
  cases r
  case cmd => exact absurd rfl hc
  case opFunc | opTag | opPw | opOper | opLens | opAddrLo | opAddrHi | opRange | opDp | opByte
    | ibufLen | timeoutMs | pollMs | explen => exact State.unlessBusy_of_wait h _
  all_goals simp [lockedRegs] at hr

/-- A write to a register that the Host can only read is ignored (R37, R38). -/
theorem State.writeReg_readOnly (s : State) {r : Reg} (hr : r ∈ readOnlyRegs) (v : Word) :
    s.writeReg r v = s := by
  cases r
  case resStatus | resCtrl | resLen | resTag | resVal | resMantLo | resMantHi | resDp | acc | addrLo
    | addrHi | pendFunc | pendTag | obufLen | evFunc | evTag | evLen => rfl
  all_goals simp [readOnlyRegs] at hr

/-! ## Fields of a register word -/

@[simp] theorem getLsbD_bitAt (k i : Nat) (b : Bool) :
    (bitAt k b).getLsbD i = (decide (i = k ∧ k < 32) && b) := by
  cases b with
  | false => simp [bitAt]
  | true =>
    have hplace : (i < 32 ∧ k ≤ i ∧ i - k = 0) ↔ (i = k ∧ k < 32) := by omega
    rw [Bool.eq_iff_iff]
    simpa [bitAt, and_assoc] using hplace

/-- A one-bit field (R26). -/
theorem bitAt_eq (k : Nat) (b : Bool) : bitAt k b = (BitVec.ofBool b).setWidth 32 <<< k := by
  cases b <;> simp [bitAt]

/-- The number in a field cut out of a word. -/
theorem toNat_cut {w : Nat} (v : BitVec w) (k n : Nat) :
    (v.extractLsb' k n).toNat = v.toNat / 2 ^ k % 2 ^ n := by
  rw [BitVec.extractLsb'_toNat, Nat.shiftRight_eq_div_pow]

/-- A field cut out of a word and put back in its place is the word under the field's mask. -/
theorem field_in_place (v : Word) (k n : Nat) :
    (v.extractLsb' k n).setWidth 32 <<< k = v &&& (BitVec.allOnes n).setWidth 32 <<< k := by
  ext i hi
  by_cases h : i < k
  · simp [h]
  · have hik : k + (i - k) = i := by omega
    simp [h, hik, BitVec.getLsbD_eq_getElem hi, Bool.and_comm]

/-- The lowest field of a word is the word under the field's mask. -/
theorem lowest_field (v : Word) (n : Nat) :
    (v.extractLsb' 0 n).setWidth 32 = v &&& (BitVec.allOnes n).setWidth 32 := by
  simpa using field_in_place v 0 n

/-- A bit of a word put back in its place is the word under the bit's mask. -/
theorem bit_in_place (v : Word) (k : Nat) : bitAt k (v.getLsbD k) = v &&& bitAt k true := by
  refine BitVec.eq_of_getLsbD_eq fun i hi => ?_
  rw [BitVec.getLsbD_and, getLsbD_bitAt, getLsbD_bitAt]
  by_cases h : i = k
  · rw [h, Bool.and_true, Bool.and_comm]
  · simp [h]

/-- The word is the number `a`, and its bits from `k` upward are 0. -/
def Packs (x : Word) (k a : Nat) : Prop := x.toNat = a ∧ a < 2 ^ k

/-- The lowest field of a word counts as itself. -/
theorem packs_setWidth {n : Nat} (f : BitVec n) (hn : n ≤ 32 := by omega) : Packs (f.setWidth 32) n f.toNat :=
  ⟨BitVec.toNat_setWidth_of_le hn, f.isLt⟩

/-- A field put above the occupied bits adds its value at its place. -/
theorem Packs.field {x : Word} {k a n : Nat} (h : Packs x k a) (j : Nat) (f : BitVec n)
    (hj : k ≤ j := by omega) (hn : j + n ≤ 32 := by omega) :
    Packs (x ||| f.setWidth 32 <<< j) (j + n) (a + 2 ^ j * f.toNat) := by
  obtain ⟨rfl, ha⟩ := h
  have ha : x.toNat < 2 ^ j := lt_of_lt_of_le ha (Nat.pow_le_pow_right (by omega) hj)
  have hsum : x.toNat + 2 ^ j * f.toNat < 2 ^ (j + n) := by
    calc x.toNat + 2 ^ j * f.toNat < 2 ^ j * (f.toNat + 1) := by rw [Nat.mul_add]; omega
      _ ≤ 2 ^ j * 2 ^ n := Nat.mul_le_mul_left _ f.isLt
      _ = 2 ^ (j + n) := (Nat.pow_add 2 j n).symm
  have hword : 2 ^ (j + n) ≤ 2 ^ 32 := Nat.pow_le_pow_right (by omega) hn
  refine ⟨?_, hsum⟩
  rw [BitVec.toNat_or, BitVec.toNat_shiftLeft, BitVec.toNat_setWidth_of_le (by omega), Nat.shiftLeft_eq,
    Nat.mul_comm, Nat.mod_eq_of_lt (by omega), Nat.or_comm, ← Nat.two_pow_add_eq_or_of_lt ha, Nat.add_comm]

/-- A bit set above the occupied bits adds its place value. -/
theorem Packs.bit {x : Word} {k a : Nat} (h : Packs x k a) (j : Nat) (b : Bool)
    (hj : k ≤ j := by omega) (hn : j < 32 := by omega) :
    Packs (x ||| bitAt j b) (j + 1) (a + 2 ^ j * b.toNat) := by
  simpa [bitAt_eq] using h.field j (BitVec.ofBool b) hj hn

theorem packs_bitAt_zero (b : Bool) : Packs (bitAt 0 b) 1 b.toNat := by
  simpa [bitAt_eq] using packs_setWidth (BitVec.ofBool b)

end Sys2Proof.Machine

/-! The host's accesses: the write lock, `STATUS`, the value read at every offset, what a written register
reads, reset. -/

namespace Sys2Proof.Machine

/-! ## The write lock -/

/-- Settles O48: each locked register and each byte of IBUF and PBUF is written through the lock. -/
theorem writeLockWhileBusy : Obligations.WriteLockWhileBusy := by
  intro s hs
  constructor
  · intro r hr v
    by_cases hc : r = .cmd
    · subst hc
      exact acceptCommand_of_wait hs v
    · rw [runMove_regWrite_offset hc, State.writeReg_of_wait hs hr hc]
      rfl
  · intro off b h
    obtain ⟨c, hc, hw⟩ : ∃ c : Buf, bufAt off = some c ∧ c.hostWritable = true := by
      rcases h with h | h
      · exact ⟨.ibuf, bufAt_eq_some_iff.2 h, rfl⟩
      · exact ⟨.pbuf, bufAt_eq_some_iff.2 h, rfl⟩
    simp only [runMove, State.writeBufAt, hc, hw, if_true, State.unlessBusy_of_wait hs]
    rfl

/-- Settles O54: taking the move leaves `TXS` alone, so the lock decides between the two. -/
theorem stepRunsDecodedCommand : Obligations.StepRunsDecodedCommand := by
  intro s v rest hm
  have hstep : step s = acceptCommand v (s.takeMove rest) := by
    rw [step, nextMove, hm]
    rfl
  constructor
  · rintro hs i ⟨⟩
    exact hstep.trans (acceptCommand_of_idle (s := s.takeMove rest) hs v)
  · intro hs
    exact hstep.trans (acceptCommand_of_wait (s := s.takeMove rest) hs v)

/-! ## STATUS -/

/-- `TXS` occupies bits 9:8 of `STATUS`, and only bit 8 is ever set (R23, R26). -/
theorem TxState.code_field (x : TxState) : x.code.setWidth 32 <<< 8 = bitAt 8 (decide (x = .wait)) := by
  cases x <;> rfl

/-- `SCS` occupies bits 11:10 of `STATUS` (R23, R26). -/
theorem ScanState.code_field (x : ScanState) : x.code.setWidth 32 <<< 10 =
    bitAt 10 (decide (x = .sleep ∨ x = .dispatch)) ||| bitAt 11 (decide (x = .waitBody ∨ x = .dispatch)) := by
  cases x <;> decide

/-- Settles O50: each field of `STATUS` is a bit in its place; the last case is a bit of no field. -/
theorem statusBits : Obligations.StatusBits := by
  intro s
  refine ⟨fun i => ?_, fun v => rfl⟩
  simp only [State.regValue, State.statusWord, TxState.code_field, ScanState.code_field, BitVec.getLsbD_or,
    getLsbD_bitAt, State.scanActive, State.evValid, State.busy_eq]
  split
  case h_12 => simp_all
  all_goals simp

/-! ## Reset -/

/-- Settles O56: a reset puts every field but the transport's and the model's own at its reset value. -/
theorem resetValues : Obligations.ResetValues := by
  intro s
  refine ⟨s.resetBlock, rfl, rfl, rfl, rfl, ?_, rfl, rfl, rfl, rfl, ?_, rfl, rfl, rfl, rfl⟩
  · intro r
    change State.reset.regValue r = resetValue r
    cases r <;> decide
  · intro b _
    cases b <;> rfl

/-- Settles O58: both machines rest, so every clause about a running machine is empty. -/
theorem invariantAtReset : Obligations.InvariantAtReset where
  canonical := State.reset_mem_wf
  mapped := by simp [State.reset]
  exclusive := by decide
  scanEnabled := by decide
  pending := by decide
  listener := by decide
  response := by decide
  ibufLen := by decide
  obufLen := by decide
  timing := by decide
  pollCount := by decide
  elapsed := by decide
  scanCount := by decide
  queue := Nat.zero_le _

/-! ## The numbers of the registers -/

theorem TxState.toNat_code (x : TxState) : x.code.toNat = (decide (x = .wait)).toNat := by
  cases x <;> rfl

theorem ScanState.toNat_code (x : ScanState) : x.code.toNat = scanNumber x := by
  cases x <;> rfl

theorem Status.toNat_code (x : Status) : x.code.toNat = statusNumber x := by
  cases x <;> rfl

/-- `CTRL` as a number (R25). -/
theorem State.toNat_ctrlWord (s : State) : (bitAt 0 s.ctrl.scanEn ||| bitAt 1 s.ctrl.listenerEn).toNat =
    s.ctrl.scanEn.toNat + 2 * s.ctrl.listenerEn.toNat :=
  ((packs_bitAt_zero s.ctrl.scanEn).bit 1 s.ctrl.listenerEn).1

/-- `STATUS` as a number: its ten fields at their place values (R26). -/
theorem State.toNat_statusWord (s : State) : s.statusWord.toNat =
    (decide (s.tx.txs ≠ .idle)).toNat + 2 * s.flags.rspValid.toNat + 4 * (decide (s.sc.scs ≠ .off)).toNat
      + 8 * (decide (s.sc.scs = .dispatch)).toNat + 16 * s.flags.csWarn.toNat + 32 * s.flags.frameErr.toNat
      + 64 * s.flags.cmdRej.toNat + 128 * s.pend.valid.toNat + 256 * (decide (s.tx.txs = .wait)).toNat
      + 1024 * scanNumber s.sc.scs := by
  have h := (packs_bitAt_zero s.busy).bit 1 s.flags.rspValid
  have h := (h.bit 2 s.scanActive).bit 3 s.evValid
  have h := (h.bit 4 s.flags.csWarn).bit 5 s.flags.frameErr
  have h := (h.bit 6 s.flags.cmdRej).bit 7 s.pend.valid
  have h := (h.field 8 s.tx.txs.code).field 10 s.sc.scs.code
  rw [TxState.toNat_code, ScanState.toNat_code, State.busy_eq] at h
  rw [State.statusWord, State.busy_eq]
  exact h.1

/-- `OP_FUNC` as a number (R30). -/
theorem State.toNat_opFuncWord (s : State) :
    (s.op.func.setWidth 32 ||| bitAt 8 s.op.hasTag).toNat = s.op.func.toNat + 2 ^ 8 * s.op.hasTag.toNat :=
  ((packs_setWidth s.op.func).bit 8 s.op.hasTag).1

/-- A register made of two fields. -/
theorem toNat_two_fields {m n : Nat} (j : Nat) (f : BitVec m) (g : BitVec n) (hj : m ≤ j) (hn : j + n ≤ 32) :
    (f.setWidth 32 ||| g.setWidth 32 <<< j).toNat = f.toNat + 2 ^ j * g.toNat :=
  ((packs_setWidth f).field j g).1

/-- A register made of three fields. -/
theorem toNat_three_fields {m n p : Nat} (j k : Nat) (f : BitVec m) (g : BitVec n) (e : BitVec p)
    (hj : m ≤ j) (hk : j + n ≤ k) (hp : k + p ≤ 32) :
    (f.setWidth 32 ||| g.setWidth 32 <<< j ||| e.setWidth 32 <<< k).toNat
      = f.toNat + 2 ^ j * g.toNat + 2 ^ k * e.toNat :=
  (((packs_setWidth f).field j g).field k e).1

/-- A register made of four bytes (R21). -/
theorem toNat_four_bytes (b0 b1 b2 b3 : Byte) :
    (b0.setWidth 32 ||| b1.setWidth 32 <<< 8 ||| b2.setWidth 32 <<< 16 ||| b3.setWidth 32 <<< 24).toNat
      = b0.toNat + 2 ^ 8 * b1.toNat + 2 ^ 16 * b2.toNat + 2 ^ 24 * b3.toNat :=
  ((((packs_setWidth b0).field 8 b1).field 16 b2).field 24 b3).1

/-- The lower half of the mantissa (R40). -/
theorem toNat_mantLo (m : BitVec 64) : (m.extractLsb' 0 32).toNat = m.toNat % 2 ^ 32 := by
  rw [toNat_cut, Nat.pow_zero, Nat.div_one]

/-- The upper half of the mantissa (R40). -/
theorem toNat_mantHi (m : BitVec 64) : (m.extractLsb' 32 32).toNat = m.toNat / 2 ^ 32 := by
  have := m.isLt
  rw [toNat_cut, Nat.mod_eq_of_lt (by omega)]

/-- The register map of R37 lists what the registers hold, offset by offset. -/
theorem State.registerTable_eq (s : State) :
    s.registerTable = allRegs.map fun r => (r.offset, (s.regValue r).toNat) := by
  simp (disch := omega) only [allRegs, List.map_cons, List.map_nil, State.registerTable, List.cons_append,
    List.nil_append, State.regValue, Reg.offset, State.toNat_ctrlWord, State.toNat_statusWord,
    State.toNat_opFuncWord, toNat_two_fields, toNat_three_fields, toNat_four_bytes, toNat_mantLo,
    toNat_mantHi, BitVec.toNat_setWidth_of_le, Status.toNat_code]
  rfl

/-! ## Reads -/

theorem Reg.unspecifiedWhileBusy_iff (r : Reg) : r.unspecifiedWhileBusy = true ↔ r ∈ openWhileBusy := by
  cases r <;> decide

/-- A read gives the register's value, in flight too but for the registers that R33 calls unspecified there. -/
theorem State.readReg_eq {s : State} {r : Reg} (h : s.tx.txs = .idle ∨ r ∉ openWhileBusy) :
    s.readReg r = s.regValue r := by
  refine if_neg fun hb => ?_
  obtain ⟨hbusy, hopen⟩ := Bool.and_eq_true_iff.1 hb
  rw [State.busy_eq_true_iff] at hbusy
  rw [Reg.unspecifiedWhileBusy_iff] at hopen
  rcases h with h | h
  · simp [h] at hbusy
  · exact h hopen

theorem State.readRegAt_offset (s : State) (r : Reg) : s.readRegAt r.offset = s.readReg r := by
  simp [State.readRegAt]

theorem State.readRegAt_unmapped (s : State) {off : Nat} (h : ∀ r : Reg, r.offset ≠ off) :
    s.readRegAt off = 0 := by
  simp [State.readRegAt, regAt_eq_none_iff.2 h]

/-- A valid buffer byte lies in one buffer, below the valid length of that buffer (R71, R73). -/
theorem State.validOffset_cases {s : State} {off : Nat} (h : s.validOffset off) :
    ∃ b : Buf, bufAt off = some b ∧ off - b.base < s.validLen b := by
  simp only [bufAt_eq_some_iff]
  rcases h with h | h | h | h | ⟨hs, h⟩
  · exact ⟨.ibuf, by simp only [Buf.base, Buf.size, Config.ibufSize, State.validLen]; omega⟩
  · exact ⟨.obuf, by simp only [Buf.base, Buf.size, Config.obufSize, State.validLen]; omega⟩
  · exact ⟨.pbuf, by simp only [Buf.base, Buf.size, Config.pbufSize, State.validLen]; omega⟩
  · have := s.res.len.isLt
    exact ⟨.vbuf, by simp only [Buf.base, Buf.size, Config.vbufSize, State.validLen]; omega⟩
  · have := s.ev.len.isLt
    have hv : s.evValid = true := by simp [State.evValid, hs]
    exact ⟨.evbuf, by simp only [Buf.base, Buf.size, Config.evbufSize, State.validLen, hv, if_true]; omega⟩

/-- A valid byte is read as it is held, in flight too where the buffer is PBUF or EVBUF (R33, R74). -/
theorem State.readBufAt_valid {s : State} {off : Nat}
    (hopen : s.tx.txs = .idle ∨ (0x1400 ≤ off ∧ off < 0x14F3) ∨ 0x1600 ≤ off) (h : s.validOffset off) :
    s.readBufAt off = s.byteAt off := by
  obtain ⟨b, hb, hlen⟩ := State.validOffset_cases h
  have hlock : (s.busy && b.unspecifiedWhileBusy) = false := by
    rw [bufAt_eq_some_iff] at hb
    rcases hopen with hs | hoff
    · simp [State.busy_eq_false_iff.2 hs]
    · have : b.unspecifiedWhileBusy = false := by
        cases b
        case pbuf | evbuf => rfl
        all_goals
          simp only [Buf.base, Buf.size, Config.ibufSize, Config.obufSize, Config.vbufSize] at hb
          omega
      simp [this]
  simp [State.readBufAt, hb, hlock, Nat.not_le.2 hlen]

/-- Settles O52: the table of R37 is read off the registers, the buffers off their valid lengths. -/
theorem readsHaveNoSideEffect : Obligations.ReadsHaveNoSideEffect := by
  intro s off
  refine ⟨⟨s.readRegAt off, rfl, ?_, ?_, ?_, ?_⟩, (s.readBufAt off).setWidth 32, rfl, ?_, ?_⟩
  · intro n hn hopen
    rw [State.registerTable_eq] at hn
    obtain ⟨r, -, ⟨⟩⟩ := List.mem_map.1 hn
    rw [State.readRegAt_offset, State.readReg_eq]
    exact hopen.imp_right fun h hr => h (List.mem_map_of_mem hr)
  · rintro r rfl hopen
    rw [State.readRegAt_offset, State.readReg_eq hopen]
  · intro h
    refine s.readRegAt_unmapped fun r hr => h ?_
    rw [State.registerTable_eq, List.map_map]
    exact List.mem_map.2 ⟨r, mem_allRegs r, hr⟩
  · rintro rfl
    exact (s.readRegAt_offset .cmd).trans (State.readReg_eq (.inr (by decide)))
  · intro hopen hvalid
    rw [State.readBufAt_valid hopen hvalid]
  · intro h
    simp [State.readBufAt, bufAt_eq_none_iff.2 h]

end Sys2Proof.Machine

/-! What a register reads after a write to it. -/

namespace Sys2Proof.Machine

/-! ## The operand registers -/

/-- An operand register written with no transaction in flight reads the written value, its unlisted bits 0 (R30). -/
theorem State.regValue_writeReg_operand {s : State} (hs : s.tx.txs = .idle) {r : Reg} {m : Word}
    (hr : operandMask r = some m) (v : Word) : (s.writeReg r v).regValue r = v &&& m := by
  cases r <;> cases hr
  all_goals simp only [State.writeReg, State.unlessBusy_of_idle hs, State.regValue]
  case opFunc | opLens | opRange =>
    simp only [lowest_field, field_in_place, bit_in_place, ← BitVec.and_or_distrib_left]
    rfl
  case opAddrHi | opDp | opByte =>
    exact lowest_field v _
  all_goals exact BitVec.and_allOnes.symm

/-- A write to an operand register reaches the operand registers only (R30). -/
theorem State.writeReg_operand_frame {s : State} (hs : s.tx.txs = .idle) {r : Reg} {m : Word}
    (hr : operandMask r = some m) (v : Word) :
    s.writeReg r v = { s with op := (s.writeReg r v).op } := by
  cases r <;> cases hr
  all_goals simp only [State.writeReg, State.unlessBusy_of_idle hs]

/-- The operand registers do not overlap: a write to one leaves what every other register reads (R30, R37). -/
theorem State.regValue_writeReg_operand_of_ne {s : State} (hs : s.tx.txs = .idle) {r r' : Reg} {m : Word}
    (hr : operandMask r = some m) (h : r' ≠ r) (v : Word) :
    (s.writeReg r v).regValue r' = s.regValue r' := by
  cases r <;> cases hr
  all_goals
    simp only [State.writeReg, State.unlessBusy_of_idle hs]
    cases r'
  case opFunc.refl.opFunc | opTag.refl.opTag | opPw.refl.opPw | opOper.refl.opOper | opLens.refl.opLens
    | opAddrLo.refl.opAddrLo | opAddrHi.refl.opAddrHi | opRange.refl.opRange | opDp.refl.opDp
    | opByte.refl.opByte => exact absurd rfl h
  all_goals rfl

/-! ## The timing registers and `IBUF_LEN` -/

/-- Write-any-read-legal as a maximum (R31). -/
theorem toNat_atLeastOne {w : Nat} (hw : 0 < w) (v : BitVec w) : (atLeastOne v).toNat = max 1 v.toNat := by
  have h1 : (1#w).toNat = 1 := by simp [Nat.one_mod_two_pow_eq_one.2 hw]
  by_cases h : v = 0
  · simp [atLeastOne, h, h1]
  · have : v.toNat ≠ 0 := fun h0 => h (BitVec.eq_of_toNat_eq (by simpa using h0))
    rw [atLeastOne, if_neg h]
    omega

/-- The clamp of `IBUF_LEN` as a minimum (R32). -/
theorem toNat_clampIbufLen (v : BitVec 10) : (clampIbufLen v).toNat = min 512 v.toNat := by
  rw [clampIbufLen, Config.ibufSize]
  split
  · have : (512 : BitVec 10).toNat = 512 := rfl
    omega
  · omega

/-- Settles O51: register by register, the lock being passed. -/
theorem registerReadBack : Obligations.RegisterReadBack := by
  intro s hs v
  refine ⟨?_, ?_, ?_, ?_, ?_, ?_, ?_⟩
  · intro r m hr
    have hc : r ≠ .cmd := by rintro rfl; cases hr
    exact ⟨s.writeReg r v, runMove_regWrite_offset hc v s, State.regValue_writeReg_operand hs hr v,
      State.writeReg_operand_frame hs hr v, fun r' h => State.regValue_writeReg_operand_of_ne hs hr h v⟩
  · refine ⟨_, congrArg Host.Outcome.next (State.unlessBusy_of_idle hs _), ?_, rfl⟩
    simp only [State.regValue, BitVec.toNat_setWidth_of_le (show 16 ≤ 32 by omega), toNat_cut]
    omega
  · refine ⟨_, congrArg Host.Outcome.next (State.unlessBusy_of_idle hs _), ?_, rfl⟩
    simp (disch := omega) only [State.regValue, BitVec.toNat_setWidth_of_le, toNat_atLeastOne, toNat_cut]
    omega
  · refine ⟨_, congrArg Host.Outcome.next (State.unlessBusy_of_idle hs _), ?_, rfl⟩
    simp (disch := omega) only [State.regValue, toNat_three_fields, toNat_atLeastOne, toNat_cut]
    omega
  · refine ⟨_, congrArg Host.Outcome.next (State.unlessBusy_of_idle hs _), ?_, rfl⟩
    simp (disch := omega) only [State.regValue, BitVec.toNat_setWidth_of_le, toNat_clampIbufLen, toNat_cut]
    omega
  · intro r hr
    have hc : r ≠ .cmd := by rintro rfl; simp [readOnlyRegs] at hr
    rw [runMove_regWrite_offset hc, State.writeReg_readOnly s hr]
  · intro off h
    exact runMove_regWrite_unmapped h v s

end Sys2Proof.Machine

/-! What a step leaves unchanged of `ADDR`, `ACC` and the result registers, said once for each operation. -/

namespace Sys2Proof.Machine

/-! ## The registers that only commands and transactions write -/

/-- `ADDR`, `ACC` and the result registers: no host access, no byte from the line and no step of the scanner
writes them. -/
def State.outputs (s : State) : Address × Byte × ResultRegs := (s.addr, s.acc, s.res)

/-- `ACC` and the BCD result pair: no decode writes them (R40, R145, R188). -/
def State.computed (s : State) : Byte × BitVec 64 × BitVec 4 := (s.acc, s.res.mant, s.res.dp)

theorem State.outputs_eq_iff {s t : State} :
    t.outputs = s.outputs ↔ t.addr = s.addr ∧ t.acc = s.acc ∧ t.res = s.res := by
  simp [State.outputs]

theorem State.computed_eq_iff {s t : State} :
    t.computed = s.computed ↔ t.acc = s.acc ∧ t.res.mant = s.res.mant ∧ t.res.dp = s.res.dp := by
  simp [State.computed]

theorem State.addr_of_outputs {s t : State} (h : t.outputs = s.outputs) : t.addr = s.addr :=
  (State.outputs_eq_iff.1 h).1

theorem State.computed_of_outputs {s t : State} (h : t.outputs = s.outputs) : t.computed = s.computed := by
  obtain ⟨-, hacc, hres⟩ := State.outputs_eq_iff.1 h
  rw [State.computed, State.computed, hacc, hres]

/-! ## Host accesses -/

theorem State.unlessBusy_outputs {s t : State} (h : t.outputs = s.outputs) :
    (s.unlessBusy t).outputs = s.outputs := by
  unfold State.unlessBusy
  split
  · rfl
  · exact h

theorem State.setScanEn_outputs (s : State) (en : Bool) : (s.setScanEn en).outputs = s.outputs := by
  unfold State.setScanEn State.scanStop
  split_ifs <;> rfl

theorem State.setListener_outputs (s : State) (en : Bool) : (s.setListener en).outputs = s.outputs := by
  unfold State.setListener
  dsimp only
  split <;> rfl

theorem State.writeReg_outputs (s : State) (r : Reg) (v : Word) : (s.writeReg r v).outputs = s.outputs := by
  cases r
  case ctrl => exact (State.setListener_outputs _ _).trans (State.setScanEn_outputs s _)
  case opFunc | opTag | opPw | opOper | opLens | opAddrLo | opAddrHi | opRange | opDp | opByte
    | ibufLen | timeoutMs | pollMs | explen => exact State.unlessBusy_outputs rfl
  all_goals rfl

theorem State.writeBufAt_outputs (s : State) (off : Nat) (b : Byte) :
    (s.writeBufAt off b).outputs = s.outputs := by
  unfold State.writeBufAt
  split
  · rfl
  · split
    · exact State.unlessBusy_outputs rfl
    · rfl

theorem State.rxArrive_outputs (s : State) (b : Byte) : (s.rxArrive b).outputs = s.outputs := by
  rcases s.rxArrive_cases b with ⟨-, h⟩ | ⟨-, h⟩
  · rw [h]
    rfl
  · rw [h]

/-! ## The scanner -/

/-- The scanner writes its own registers, the event, `RXQ`, two sticky flags and EVBUF (R36, R225 to R247). -/
def State.scannerOnly (s t : State) : Prop :=
  t = { s with
    sc := t.sc, ev := t.ev, mem := t.mem, rxq := t.rxq
    flags := { s.flags with csWarn := t.flags.csWarn, frameErr := t.flags.frameErr } } ∧
  ∀ c, c < 0x1600 → t.byteAt c = s.byteAt c

theorem State.scannerOnly.trans {s t u : State} (h : s.scannerOnly t) (h' : t.scannerOnly u) :
    s.scannerOnly u := by
  obtain ⟨ht, hb⟩ := h
  obtain ⟨hu, hb'⟩ := h'
  refine ⟨?_, fun c hc => (hb' c hc).trans (hb c hc)⟩
  rw [ht] at hu
  exact hu

theorem State.scannerOnly_refl (s : State) : s.scannerOnly s := ⟨rfl, fun _ _ => rfl⟩

theorem State.scanSleep_scannerOnly (s : State) : s.scannerOnly s.scanSleep := ⟨rfl, fun _ _ => rfl⟩

theorem State.offerEvent_scannerOnly (s : State) (c : Byte) (g : Word) (l : List Byte) :
    s.scannerOnly (s.offerEvent c g l) := by
  unfold State.offerEvent
  split
  · refine ⟨rfl, fun a ha => s.byteAt_memWrite .evbuf 0 l a ?_⟩
    simp only [Buf.base]
    omega
  · exact s.scanSleep_scannerOnly

theorem State.classify_scannerOnly (s : State) (c : Byte) (d : List Byte) :
    s.scannerOnly (s.classify c d) := by
  unfold State.classify State.taggedEvent
  split_ifs
  · exact s.offerEvent_scannerOnly _ _ _
  · exact ⟨rfl, fun _ _ => rfl⟩
  · exact s.offerEvent_scannerOnly _ _ _

theorem State.bodyCheck_scannerOnly {s t : State} (h : s.bodyCheck = .ok t) : s.scannerOnly t := by
  rcases s.bodyCheck_cases with ⟨hlen, e⟩ | ⟨-, e⟩
  · rw [e, s.scanBody_eq hlen] at h
    obtain rfl := Except.ok.inj h
    exact .trans ⟨rfl, fun _ _ => rfl⟩ (State.classify_scannerOnly _ _ _)
  · rw [e] at h
    obtain rfl := Except.ok.inj h
    exact ⟨rfl, fun _ _ => rfl⟩

theorem State.scanCycle_scannerOnly {s t : State} (h : s.scanCycle = .ok t) : s.scannerOnly t := by
  rcases s.scanCycle_cases with ⟨-, e⟩ | ⟨-, -, e⟩ | ⟨-, -, -, e⟩ | ⟨-, -, -, e⟩
  case inr.inr.inr =>
    have hbody := State.bodyCheck_scannerOnly (e.symm.trans h)
    exact .trans ⟨rfl, fun _ _ => rfl⟩ hbody
  all_goals
    obtain rfl := Except.ok.inj (e.symm.trans h)
    exact ⟨rfl, fun _ _ => rfl⟩

/-- The scanner's reaction to a tick writes only what is the scanner's (R227, R238). -/
theorem State.scanTick_scannerOnly {s t : State} (h : s.scanTick = .ok t) : s.scannerOnly t := by
  have hcount : s.scannerOnly { s with sc := { s.sc with cnt := s.sc.cnt - 1 } } := ⟨rfl, fun _ _ => rfl⟩
  unfold State.scanTick at h
  dsimp only at h
  split at h
  case h_1 | h_4 =>
    obtain rfl := Except.ok.inj h
    exact s.scannerOnly_refl
  case h_2 =>
    split at h
    · exact hcount.trans (State.scanCycle_scannerOnly h)
    · exact Except.ok.inj h ▸ hcount
  case h_3 =>
    split at h
    · exact hcount.trans (State.bodyCheck_scannerOnly h)
    · exact Except.ok.inj h ▸ hcount

theorem State.scannerOnly.outputs {s t : State} (h : s.scannerOnly t) : t.outputs = s.outputs := by
  rw [h.1]
  rfl

/-! ## Decoding -/

theorem toNat_baseOf (c : Byte) : (baseOf c).toNat = c.toNat % 32 := by
  rw [baseOf, BitVec.toNat_and]
  exact Nat.and_two_pow_sub_one_eq_mod _ 5

theorem baseOf_eq_iff (c b : Byte) : baseOf c = b ↔ c.toNat % 32 = b.toNat := by
  rw [← toNat_baseOf, BitVec.toNat_inj]

theorem readDataArm_ne_addressReply {addr store : Address} {ctrl c : Byte} {d : List Byte} {tag : Word}
    {a : Address} : readDataArm addr ctrl d tag store ≠ .ok (.addressReply c a) := by
  unfold readDataArm
  split_ifs <;> simp

theorem writeArm_ne_addressReply {ctrl c : Byte} {d : List Byte} {a : Address} :
    writeArm ctrl d ≠ .ok (.addressReply c a) := by
  unfold writeArm
  split_ifs <;> simp

theorem readAddressArm_eq_addressReply {addr a : Address} {ctrl c : Byte} {d : List Byte}
    (h : readAddressArm addr ctrl d = .ok (.addressReply c a)) : c = ctrl := by
  unfold readAddressArm at h
  split_ifs at h
  cases h
  rfl

/-- Only the read-address arm answers an address: base function 0x13, and it was expected (R179 to R182). -/
theorem dispatchReply_eq_addressReply {addr store a : Address} {ctrl func c : Byte} {d : List Byte} {tag : Word}
    (h : dispatchReply addr ctrl d func tag store = .ok (.addressReply c a)) :
    baseOf c = 0x13 ∧ baseOf func = 0x13 := by
  unfold dispatchReply at h
  split_ifs at h with hknown hfunc haddr hdata
  · obtain rfl := readAddressArm_eq_addressReply h
    exact ⟨haddr, (not_not.1 hfunc).symm.trans haddr⟩
  · exact absurd h readDataArm_ne_addressReply
  · exact absurd h writeArm_ne_addressReply

theorem decodeFrame_eq_addressReply {raw : List Byte} {func : Byte} {tag : Word} {store : Address}
    {c : Byte} {a : Address} (h : decodeFrame raw func tag store = .ok (.addressReply c a)) :
    c.toNat % 32 = 0x13 ∧ func.toNat % 32 = 0x13 := by
  unfold decodeFrame decodeFields at h
  split at h
  · cases h
  · split_ifs at h
    obtain ⟨hc, hf⟩ := dispatchReply_eq_addressReply h
    exact ⟨(baseOf_eq_iff _ _).1 hc, (baseOf_eq_iff _ _).1 hf⟩

/-- What the decode of a read-address reply leaves to see: the response, OK, a control code of base function
0x13, and the new `ADDR` in VBUF (R182, R188). -/
def State.showsReadAddress (t : State) : Prop :=
  t.flags.rspValid = true ∧ t.res.status = .ok ∧ t.res.ctrl.toNat % 32 = 0x13 ∧ t.res.tag = 0 ∧
    t.res.len = 6 ∧ t.bytesAt 0x1500 6 = t.addr.bytes

/-- `t` has the address store of `s`, or a read-address reply expected by `func` was decoded (R182, R187). -/
def State.addrKeptOrRead (s t : State) (func : Byte) : Prop :=
  t.addr = s.addr ∨ func.toNat % 32 = 0x13 ∧ t.showsReadAddress

theorem State.complete_addressReply_shows (s : State) {c : Byte} (hc : c.toNat % 32 = 0x13) (a : Address) :
    (s.complete (.ok (.addressReply c a))).showsReadAddress :=
  ⟨rfl, rfl, hc, rfl, rfl, State.bytesAt_of_storeList (l := a.bytes) rfl⟩

theorem State.complete_decodeFrame_addr (s : State) (raw : List Byte) (func : Byte) (tag : Word)
    (store : Address) : s.addrKeptOrRead (s.complete (decodeFrame raw func tag store)) func := by
  cases h : decodeFrame raw func tag store with
  | error e => exact .inl rfl
  | ok d =>
    cases d with
    | addressReply c a =>
      obtain ⟨hc, hf⟩ := decodeFrame_eq_addressReply h
      exact .inr ⟨hf, s.complete_addressReply_shows hc a⟩
    | dataReply => exact .inl rfl
    | writeReply => exact .inl rfl

@[simp] theorem State.complete_computed (s : State) (r : Except Status Decoded) :
    (s.complete r).computed = s.computed := by
  rcases r with e | (_ | _ | _) <;> rfl

/-! ## The transaction -/

theorem State.finishRead_addr {s t : State} (h : s.finishRead = .ok t) :
    s.addrKeptOrRead t s.pend.func := by
  rw [State.finishRead_eq] at h
  obtain rfl := Except.ok.inj h
  exact State.complete_decodeFrame_addr _ _ _ _ _

theorem State.finishRead_computed {s t : State} (h : s.finishRead = .ok t) : t.computed = s.computed := by
  rw [State.finishRead_eq] at h
  obtain rfl := Except.ok.inj h
  exact State.complete_computed _ _

/-- A poll leaves `ACC` and the BCD pair alone, and changes `ADDR` only by a decode that was expected. -/
theorem State.poll_outputs {s t : State} (h : s.poll = .ok t) :
    t.computed = s.computed ∧ s.addrKeptOrRead t s.pend.func := by
  rcases s.poll_cases with ⟨-, e⟩ | ⟨-, -, -, e⟩ | ⟨-, -, -, e⟩ | ⟨-, -, e⟩
  case inl | inr.inl =>
    rw [e] at h
    exact ⟨State.finishRead_computed h, State.finishRead_addr h⟩
  all_goals
    obtain rfl := Except.ok.inj (e.symm.trans h)
    exact ⟨rfl, .inl rfl⟩

/-- The start step of a transaction (R199). -/
theorem State.startTx_outputs {s t : State} {o : TxOp} {func : Byte} {tag : Word} {f : List Byte}
    (h : s.startTx o func tag f = .ok t) : t.computed = s.computed ∧ s.addrKeptOrRead t func :=
  State.poll_outputs h

/-- The engine's reaction to a tick (R201). -/
theorem State.txTick_outputs {s t : State} (h : s.txTick = .ok t) :
    t.computed = s.computed ∧ (t.addr = s.addr ∨ s.tx.txs = .wait ∧ s.addrKeptOrRead t s.pend.func) := by
  unfold State.txTick at h
  split at h
  · rename_i hwait
    dsimp only at h
    split at h
    · obtain ⟨hcomp, haddr⟩ := State.poll_outputs h
      exact ⟨hcomp, .inr ⟨hwait, haddr⟩⟩
    · obtain rfl := Except.ok.inj h
      exact ⟨rfl, .inl rfl⟩
  · obtain rfl := Except.ok.inj h
    exact ⟨rfl, .inl rfl⟩

/-- The scanner's part of a tick leaves a decoded address as it is shown. -/
theorem State.scannerOnly.showsReadAddress {s t : State} (h : s.scannerOnly t) (hs : s.showsReadAddress) :
    t.showsReadAddress := by
  obtain ⟨haddr, -, hres⟩ := State.outputs_eq_iff.1 h.outputs
  obtain ⟨hrsp, hstatus, hctrl, htag, hlen, hbytes⟩ := hs
  have hflag : t.flags.rspValid = s.flags.rspValid := by rw [h.1]
  have hvbuf : t.bytesAt 0x1500 6 = s.bytesAt 0x1500 6 :=
    State.bytesAt_congr fun c _ hc => h.2 c (by omega)
  rw [State.showsReadAddress, hflag, hres, hvbuf, haddr]
  exact ⟨hrsp, hstatus, hctrl, htag, hlen, hbytes⟩

/-- A tick is the engine's reaction and then the scanner's (R86, R300). -/
theorem tick_cases {s t : State} (h : tick s = .next t) :
    ∃ u, s.txTick = .ok u ∧ u.scanTick = .ok t := by
  obtain ⟨u, hu⟩ := s.txTick_ok
  obtain ⟨w, hw⟩ := u.scanTick_ok
  rw [tick, hu] at h
  simp only [hw, outcome, Host.Outcome.next.injEq] at h
  exact ⟨u, hu, h ▸ hw⟩

/-- A tick leaves `ACC` and the BCD pair alone; it changes `ADDR` only at the end of a read-address
transaction (R201, R204, R300). -/
theorem tick_outputs {s t : State} (h : tick s = .next t) :
    t.computed = s.computed ∧ (t.addr = s.addr ∨
      s.tx.txs = .wait ∧ s.pend.func.toNat % 32 = 0x13 ∧ t.showsReadAddress) := by
  obtain ⟨u, hu, hw⟩ := tick_cases h
  have hscan := State.scanTick_scannerOnly hw
  obtain ⟨hcomp, haddr⟩ := State.txTick_outputs hu
  refine ⟨(State.computed_of_outputs hscan.outputs).trans hcomp, ?_⟩
  rw [State.addr_of_outputs hscan.outputs]
  rcases haddr with haddr | ⟨hwait, haddr | ⟨hfunc, hshows⟩⟩
  · exact .inl haddr
  · exact .inl haddr
  · exact .inr ⟨hwait, hfunc, hscan.showsReadAddress hshows⟩

/-! ## Commands -/

/-- One row of the opcode table. -/
theorem encode_ite {op n : Byte} {i j : Instr} (hi : encode i = .command (n.setWidth 32))
    (hj : encode j = .command (op.setWidth 32)) :
    encode (if op = n then i else j) = .command (op.setWidth 32) := by
  split
  · subst op
    exact hi
  · exact hj

/-- The encoding of a decoded command is its opcode (R120, R121). -/
theorem encode_decodeCommand (v : Word) :
    encode (decodeCommand v) = .command ((v.extractLsb' 0 8).setWidth 32) := by
  unfold decodeCommand
  iterate 14 refine encode_ite rfl ?_
  rfl

/-- The opcode of a word written to `CMD`, as a number. -/
theorem toNat_opcode (v : Word) : ((v.extractLsb' 0 8).setWidth 32 : Word).toNat = v.toNat % 256 := by
  rw [BitVec.toNat_setWidth_of_le (by omega), toNat_cut]
  omega

/-- What the command of opcode `op` may change of `ADDR`, `ACC` and the BCD pair: each is kept, or the command
is one that writes it. -/
def State.commandOutputs (s t : State) (op : Nat) : Prop :=
  (t.acc = s.acc ∨ op = 0x01 ∨ op = 0x02 ∨ op = 0x03) ∧
  ((t.res.mant = s.res.mant ∧ t.res.dp = s.res.dp) ∨ op = 0x18 ∧ t.res.status = .ok) ∧
  (t.addr = s.addr ∨
    ((op = 0x12 ∧ s.op.func.toNat % 32 = 0x13) ∨ (op = 0x20 ∧ s.sc.scs = .off)) ∧ t.showsReadAddress)

theorem State.complete_commandOutputs (s : State) (raw : List Byte) (store : Address) :
    s.commandOutputs (s.complete (decodeFrame raw s.op.func s.op.tag store)) 0x12 := by
  obtain ⟨hacc, hbcd⟩ := State.computed_eq_iff.1 (s.complete_computed _)
  refine ⟨.inl hacc, .inl hbcd, ?_⟩
  exact (s.complete_decodeFrame_addr raw _ _ store).imp_right fun ⟨hf, hshows⟩ => ⟨.inl ⟨rfl, hf⟩, hshows⟩

/-- A started transaction changes `ADDR` only when it asks for the address, with the scanner off. -/
theorem State.startTx_commandOutputs {s t : State} {o : TxOp} {func : Byte} {tag : Word} {f : List Byte}
    {op : Nat} (h : outcome (s.startTx o func tag f) = .next t) (hoff : s.sc.scs = .off)
    (hop : func.toNat % 32 = 0x13 → op = 0x20) : s.commandOutputs t op := by
  obtain ⟨u, hu⟩ : ∃ u, s.startTx o func tag f = .ok u := State.poll_ok _
  rw [hu] at h
  obtain rfl := Host.Outcome.next.inj h
  obtain ⟨hcomp, haddr⟩ := State.startTx_outputs hu
  obtain ⟨hacc, hbcd⟩ := State.computed_eq_iff.1 hcomp
  exact ⟨.inl hacc, .inl hbcd, haddr.imp_right fun ⟨hf, hshows⟩ => ⟨.inr ⟨hop hf, hoff⟩, hshows⟩⟩

theorem execBcdDecode_commandOutputs {s t : State} (h : execBcdDecode s = .next t) :
    s.commandOutputs t 0x18 := by
  unfold execBcdDecode at h
  split at h
  · obtain rfl := Host.Outcome.next.inj h
    exact ⟨.inl rfl, .inl ⟨rfl, rfl⟩, .inl rfl⟩
  · split at h
    · obtain rfl := Host.Outcome.next.inj h
      exact ⟨.inl rfl, .inl ⟨rfl, rfl⟩, .inl rfl⟩
    · obtain rfl := Host.Outcome.next.inj h
      exact ⟨.inl rfl, .inr ⟨rfl, rfl⟩, .inl rfl⟩

theorem execCsUpdateRange_commandOutputs {s t : State} (h : execCsUpdateRange s = .next t) :
    s.commandOutputs t 0x03 := by
  unfold execCsUpdateRange at h
  split at h
  all_goals
    obtain rfl := Host.Outcome.next.inj h
    exact ⟨.inr (by omega), .inl ⟨rfl, rfl⟩, .inl rfl⟩

theorem execTxReadAddress_commandOutputs {s t : State} (h : execTxReadAddress s = .next t) :
    s.commandOutputs t 0x20 := by
  unfold execTxReadAddress at h
  split at h
  · obtain rfl := Host.Outcome.next.inj h
    exact ⟨.inl rfl, .inl ⟨rfl, rfl⟩, .inl rfl⟩
  · rename_i hoff
    exact State.startTx_commandOutputs h (by simpa using hoff) fun _ => rfl

theorem execTxReadData_commandOutputs {s t : State} (h : execTxReadData s = .next t) :
    s.commandOutputs t 0x21 := by
  unfold execTxReadData at h
  split at h
  · obtain rfl := Host.Outcome.next.inj h
    exact ⟨.inl rfl, .inl ⟨rfl, rfl⟩, .inl rfl⟩
  · rename_i hoff
    exact State.startTx_commandOutputs h (by simpa using hoff) (by decide)

theorem execTxWriteData_commandOutputs {s t : State} (h : execTxWriteData s = .next t) :
    s.commandOutputs t 0x22 := by
  unfold execTxWriteData at h
  split at h
  · obtain rfl := Host.Outcome.next.inj h
    exact ⟨.inl rfl, .inl ⟨rfl, rfl⟩, .inl rfl⟩
  · rename_i hoff
    split at h
    · obtain rfl := Host.Outcome.next.inj h
      exact ⟨.inl (by simp), .inl (by simp), .inl (by simp)⟩
    · exact State.startTx_commandOutputs h (by simpa using hoff) (by decide)

/-- Each host command: what it may change of `ADDR`, `ACC` and the BCD pair. -/
theorem exec_commandOutputs {i : Instr} {w : Word} (hi : encode i = .command w) {s t : State}
    (h : exec i s = .next t) : s.commandOutputs t w.toNat := by
  cases i
  all_goals simp only [encode, Code.command.injEq, reduceCtorEq] at hi
  all_goals subst hi
  case csReset | csUpdate =>
    obtain rfl := Host.Outcome.next.inj h
    exact ⟨.inr (by decide), .inl ⟨rfl, rfl⟩, .inl rfl⟩
  case csUpdateRange => exact execCsUpdateRange_commandOutputs h
  case bcdDecode => exact execBcdDecode_commandOutputs h
  case decFrame =>
    obtain rfl := Host.Outcome.next.inj h
    exact s.complete_commandOutputs _ _
  case txReadAddress => exact execTxReadAddress_commandOutputs h
  case txReadData => exact execTxReadData_commandOutputs h
  case txWriteData => exact execTxWriteData_commandOutputs h
  case encWrite | evAck =>
    simp only [exec, execEncWrite, execEvAck] at h
    split at h
    all_goals
      obtain rfl := Host.Outcome.next.inj h
      exact ⟨.inl rfl, .inl ⟨rfl, rfl⟩, .inl rfl⟩
  all_goals
    obtain rfl := Host.Outcome.next.inj h
    exact ⟨.inl rfl, .inl ⟨rfl, rfl⟩, .inl rfl⟩

/-! ## Steps -/

/-- A step takes the next move, or waits when there is none (R310). -/
theorem step_cases {s t : State} (h : step s = .next t) :
    (s.moves = [] ∧ t = s) ∨
      ∃ m rest, s.moves = m :: rest ∧ runMove m (s.takeMove rest) = .next t := by
  unfold step nextMove at h
  split at h
  · exact .inl ⟨‹_›, (Host.Outcome.next.inj h).symm⟩
  · exact .inr ⟨_, _, ‹_›, h⟩

/-- A write at a register offset is an accepted command, or keeps `ADDR`, `ACC` and the results. -/
theorem hostWrite_cases {off : Nat} {v : Word} {s t : State} (h : hostWrite off v s = .next t) :
    t.outputs = s.outputs ∨ (off = 0x08 ∧ s.tx.txs = .idle ∧ s.commandOutputs t (v.toNat % 256)) := by
  by_cases hmap : ∀ r : Reg, r.offset ≠ off
  · obtain rfl := Host.Outcome.next.inj ((runMove_regWrite_unmapped hmap v s).symm.trans h)
    exact .inl rfl
  · push Not at hmap
    obtain ⟨r, rfl⟩ := hmap
    by_cases hcmd : r = .cmd
    · subst hcmd
      cases hs : s.tx.txs with
      | wait =>
        obtain rfl := Host.Outcome.next.inj ((acceptCommand_of_wait hs v).symm.trans h)
        exact .inl rfl
      | idle =>
        have hexec := (acceptCommand_of_idle hs v).symm.trans h
        have hout := exec_commandOutputs (encode_decodeCommand v) hexec
        rw [toNat_opcode] at hout
        exact .inr ⟨rfl, rfl, hout⟩
    · obtain rfl := Host.Outcome.next.inj ((runMove_regWrite_offset hcmd v s).symm.trans h)
      exact .inl (s.writeReg_outputs r v)

/-- What a step may do to `ADDR`, `ACC` and the result registers: nothing, or it is a reset, an accepted
command, or a tick. -/
theorem step_outputs_cases {s t : State} (h : step s = .next t) :
    t.outputs = s.outputs ∨
    (∃ rest, s.moves = .reset :: rest ∧ t.addr = Config.addrDefault) ∨
    (∃ rest v, s.moves = .regWrite 0x08 v :: rest ∧ s.tx.txs = .idle ∧
      s.commandOutputs t (v.toNat % 256)) ∨
    (∃ rest, s.moves = .tick :: rest ∧ t.computed = s.computed ∧ (t.addr = s.addr ∨
      s.tx.txs = .wait ∧ s.pend.func.toNat % 32 = 0x13 ∧ t.showsReadAddress)) := by
  rcases step_cases h with ⟨-, rfl⟩ | ⟨m, rest, hm, hrun⟩
  · exact .inl rfl
  · cases m with
    | regWrite off v =>
      rcases hostWrite_cases hrun with hout | ⟨rfl, hidle, hcmd⟩
      · exact .inl hout
      · exact .inr (.inr (.inl ⟨rest, v, hm, hidle, hcmd⟩))
    | bufWrite off b =>
      obtain rfl := Host.Outcome.next.inj hrun
      exact .inl (State.writeBufAt_outputs _ off b)
    | rxByte b =>
      obtain rfl := Host.Outcome.next.inj hrun
      exact .inl (State.rxArrive_outputs _ b)
    | tick => exact .inr (.inr (.inr ⟨rest, hm, tick_outputs (s := s.takeMove rest) hrun⟩))
    | reset =>
      obtain rfl := Host.Outcome.next.inj hrun
      exact .inr (.inl ⟨rest, hm, rfl⟩)
    | regRead | bufRead =>
      obtain rfl := Host.Outcome.next.inj hrun
      exact .inl rfl

/-! ## The three statements -/

/-- Settles O8: a tick and a decode leave `ACC` alone, and of the commands only three write it. -/
theorem accChangesOnlyByChecksumCommands : Obligations.AccChangesOnlyByChecksumCommands := by
  intro s t h hne
  rcases step_outputs_cases h with hout | ⟨rest, hm, -⟩ | ⟨rest, v, hm, hidle, hacc, -⟩ | ⟨-, -, hcomp, -⟩
  · obtain ⟨-, hacc, -⟩ := State.outputs_eq_iff.1 hout
    exact absurd hacc hne
  · exact ⟨rest, .inl hm⟩
  · exact ⟨rest, .inr ⟨v, hm, hidle, hacc.resolve_left hne⟩⟩
  · exact absurd (State.computed_eq_iff.1 hcomp).1 hne

/-- Settles O30: a tick and a decode leave the BCD pair alone, and of the commands only one writes it. -/
theorem mantissaChangesOnlyByBcdDecode : Obligations.MantissaChangesOnlyByBcdDecode := by
  intro s t h hne
  have hne : ¬ (t.res.mant = s.res.mant ∧ t.res.dp = s.res.dp) := by
    rwa [not_and_or]
  rcases step_outputs_cases h with hout | ⟨rest, hm, -⟩ | ⟨rest, v, hm, hidle, -, hbcd, -⟩ | ⟨-, -, hcomp, -⟩
  · exact absurd (State.computed_eq_iff.1 (State.computed_of_outputs hout)).2 hne
  · exact ⟨rest, .inl hm⟩
  · exact ⟨rest, .inr ⟨v, hm, hidle, hbcd.resolve_left hne⟩⟩
  · exact absurd (State.computed_eq_iff.1 hcomp).2 hne

/-- Settles O39: a command that decodes, or the tick that ends a transaction. -/
theorem addrChangesOnlyByReadAddressDecode : Obligations.AddrChangesOnlyByReadAddressDecode := by
  intro s t h hne
  rcases step_outputs_cases h with hout | hreset | ⟨rest, v, hm, hidle, -, -, haddr⟩ | ⟨rest, hm, -, haddr⟩
  · exact absurd (State.addr_of_outputs hout) hne
  · exact .inl hreset
  · obtain ⟨hcause, hshows⟩ := haddr.resolve_left hne
    exact .inr ⟨.inl ⟨rest, v, hm, hidle, hcause⟩, hshows⟩
  · obtain ⟨hwait, hfunc, hshows⟩ := haddr.resolve_left hne
    exact .inr ⟨.inr ⟨rest, hm, hwait, hfunc⟩, hshows⟩

end Sys2Proof.Machine

/-! The steps of the machine taken apart for the whole-machine statements: what a host write is, that every
operation answers, and the two statements that need no more (BufferWrites, EveryStepHasANextState). -/

namespace Sys2Proof.Machine

/-! ## What a host write is -/

/-- A write at a register offset is ignored, a write to a register, a refused command or an accepted one
(R28, R33, R37, R38). -/
theorem hostWrite_eq_cases (off : Nat) (v : Word) (s : State) :
    hostWrite off v s = .next s ∨
    (∃ r : Reg, r ≠ .cmd ∧ hostWrite off v s = .next (s.writeReg r v)) ∨
    (s.tx.txs = .wait ∧ hostWrite off v s = .next s.setCmdRej) ∨
    (off = 0x08 ∧ s.tx.txs = .idle ∧ hostWrite off v s =
      exec (decodeCommand v) { s with flags := { s.flags with rspValid := false } }) := by
  by_cases hmap : ∀ r : Reg, r.offset ≠ off
  · exact .inl (runMove_regWrite_unmapped hmap v s)
  · push Not at hmap
    obtain ⟨r, rfl⟩ := hmap
    by_cases hcmd : r = .cmd
    · subst hcmd
      cases hs : s.tx.txs with
      | wait => exact .inr (.inr (.inl ⟨rfl, acceptCommand_of_wait hs v⟩))
      | idle => exact .inr (.inr (.inr ⟨rfl, rfl, acceptCommand_of_idle hs v⟩))
    · exact .inr (.inl ⟨r, hcmd, runMove_regWrite_offset hcmd v s⟩)

/-! ## The tests of the two machines, failed -/

theorem State.idle_of_not_busy {s : State} (h : ¬ s.busy = true) : s.tx.txs = .idle :=
  State.busy_eq_false_iff.1 (Bool.eq_false_iff.2 h)

theorem State.off_of_not_scanActive {s : State} (h : ¬ s.scanActive = true) : s.sc.scs = .off :=
  State.scanActive_eq_false_iff.1 (Bool.eq_false_iff.2 h)

/-! ## Buffer writes -/

/-- The Host may write IBUF and PBUF (R71). -/
theorem Buf.hostWritable_iff (b : Buf) : b.hostWritable = true ↔ b = .ibuf ∨ b = .pbuf := by
  cases b <;> simp [Buf.hostWritable]

/-- The offsets of IBUF and PBUF (R71). -/
theorem exists_hostWritable_iff {off : Nat} :
    (∃ b : Buf, bufAt off = some b ∧ b.hostWritable = true) ↔
      (0x1000 ≤ off ∧ off < 0x1200) ∨ (0x1400 ≤ off ∧ off < 0x14F3) := by
  simp only [Buf.hostWritable_iff, bufAt_eq_some_iff]
  constructor
  · rintro ⟨b, h, rfl | rfl⟩
    · exact .inl h
    · exact .inr h
  · rintro (h | h)
    · exact ⟨.ibuf, h, .inl rfl⟩
    · exact ⟨.pbuf, h, .inr rfl⟩

/-- A host write outside IBUF and PBUF is ignored without a flag (R71, R74). -/
theorem State.writeBufAt_ignored (s : State) {off : Nat} (b : Byte)
    (h : ¬ ∃ c : Buf, bufAt off = some c ∧ c.hostWritable = true) : s.writeBufAt off b = s := by
  unfold State.writeBufAt
  split
  · rfl
  · exact if_neg fun hw => h ⟨_, ‹_›, hw⟩

/-- A host write inside IBUF or PBUF stores one byte, through the lock (R33, R71). -/
theorem State.writeBufAt_stored (s : State) {off : Nat} (b : Byte) {c : Buf} (hc : bufAt off = some c)
    (hw : c.hostWritable = true) :
    s.writeBufAt off b = s.unlessBusy { s with mem := s.mem.store off b } := by
  have hbase : c.base + (off - c.base) = off := Nat.add_sub_cancel' (bufAt_eq_some_iff.1 hc).1
  simp [State.writeBufAt, hc, hw, State.memWrite, hbase, Memory.storeList]

/-- Settles O53: a byte in IBUF or PBUF is one store to the list, and no other offset is written. -/
theorem bufferWrites : Obligations.BufferWrites := by
  intro s off b
  refine ⟨fun hoff hidle => ?_, fun hoff => ?_⟩
  · obtain ⟨c, hc, hw⟩ := exists_hostWritable_iff.2 hoff
    refine ⟨{ s with mem := s.mem.store off b }, ?_, rfl, ?_, fun a ha => ?_⟩
    · rw [runMove, s.writeBufAt_stored b hc hw, State.unlessBusy_of_idle hidle]
    · simp [State.byteAt, Memory.lookup_store]
    · have hne : off ≠ a := by omega
      simp [State.byteAt, Memory.lookup_store, hne, State.unlistedByte]
  · rw [runMove, s.writeBufAt_ignored b (exists_hostWritable_iff.not.2 hoff)]

/-! ## Every operation answers -/

theorem State.startTx_ok (s : State) (o : TxOp) (func : Byte) (tag : Word) (f : List Byte) :
    ∃ t, s.startTx o func tag f = .ok t :=
  State.poll_ok _

/-- The start of a transaction answers a next state, whatever is in `RXQ` (R78). -/
theorem State.outcome_startTx_next (s : State) (o : TxOp) (func : Byte) (tag : Word) (f : List Byte) :
    ∃ t, outcome (s.startTx o func tag f) = .next t := by
  obtain ⟨t, h⟩ := s.startTx_ok o func tag f
  exact ⟨t, congrArg outcome h⟩

/-- Every host command answers a next state (R120, R290). -/
theorem exec_command_next {i : Instr} {w : Word} (hi : encode i = .command w) (s : State) :
    ∃ t, exec i s = .next t := by
  cases i
  all_goals simp only [encode, Code.command.injEq, reduceCtorEq] at hi
  case csUpdateRange | encWrite | evAck =>
    simp only [exec, execCsUpdateRange, execEncWrite, execEvAck]
    split <;> exact ⟨_, rfl⟩
  case bcdDecode =>
    simp only [exec, execBcdDecode]
    split
    · exact ⟨_, rfl⟩
    · split <;> exact ⟨_, rfl⟩
  case txReadAddress | txReadData =>
    simp only [exec, execTxReadAddress, execTxReadData]
    split
    · exact ⟨_, rfl⟩
    · exact State.outcome_startTx_next _ _ _ _ _
  case txWriteData =>
    simp only [exec, execTxWriteData]
    split
    · exact ⟨_, rfl⟩
    · split
      · exact ⟨_, rfl⟩
      · exact State.outcome_startTx_next _ _ _ _ _
  all_goals exact ⟨_, rfl⟩

theorem hostWrite_next (off : Nat) (v : Word) (s : State) : ∃ t, hostWrite off v s = .next t := by
  rcases hostWrite_eq_cases off v s with h | ⟨r, -, h⟩ | ⟨-, h⟩ | ⟨-, -, h⟩
  · exact ⟨_, h⟩
  · exact ⟨_, h⟩
  · exact ⟨_, h⟩
  · rw [h]
    exact exec_command_next (encode_decodeCommand v) _

theorem tick_next (s : State) : ∃ t, tick s = .next t := by
  obtain ⟨u, hu⟩ := s.txTick_ok
  obtain ⟨t, ht⟩ := u.scanTick_ok
  exact ⟨t, by simp only [tick, hu, ht, outcome]⟩

/-- Settles O60: only a command and a tick read `RXQ`, and both test availability first (R78). -/
theorem everyStepHasANextState : Obligations.EveryStepHasANextState := by
  intro s
  cases hm : s.moves with
  | nil => exact ⟨s, by rw [step, nextMove, hm]⟩
  | cons m rest =>
    have hstep : step s = runMove m (s.takeMove rest) := by rw [step, nextMove, hm]
    rw [hstep]
    cases m with
    | regWrite off v => exact hostWrite_next off v _
    | tick => exact tick_next _
    | regRead | bufRead | bufWrite | rxByte | reset => exact ⟨_, rfl⟩

end Sys2Proof.Machine

/-! The invariant is kept by every step: what is stored stays legal, and each machine leaves a legal state
when its count ends. -/

namespace Sys2Proof.Machine

/-! ## Legal buffer contents -/

/-- A canonical memory that lists only bytes of the five buffers (R71). -/
def Memory.Legal (m : Memory) : Prop := m.wf = true ∧ ∀ c ∈ m, (bufAt c.1).isSome = true

/-- Bytes written within one buffer (R12, R71). -/
theorem Memory.Legal.storeList {m : Memory} (h : m.Legal) (b : Buf) {a : Nat} {l : List Byte}
    (ha : b.base ≤ a) (hl : a + l.length ≤ b.base + b.size) : (m.storeList a l).Legal := by
  obtain ⟨hwf, hmap⟩ := h
  refine ⟨Memory.wf_storeList hwf a l, fun c hc => ?_⟩
  rcases Memory.mem_storeList hc with hc | hc
  · have hb : bufAt c.1 = some b := bufAt_eq_some_iff.2 (by omega)
    rw [hb]
    rfl
  · exact hmap c hc

theorem Memory.Legal.forget {m : Memory} (h : m.Legal) (a n : Nat) : (m.forget a n).Legal :=
  ⟨Memory.wf_forget h.1 a n, fun c hc => h.2 c (Memory.mem_forget hc)⟩

/-- Bytes written from the start of a buffer. -/
theorem Memory.Legal.storeBuf {m : Memory} (h : m.Legal) (b : Buf) {l : List Byte}
    (hl : l.length ≤ b.size) : (m.storeList b.base l).Legal :=
  h.storeList b le_rfl (by omega)

/-- The memory of a completed decode is legal when VBUF can hold the value (R188, R291). -/
theorem State.complete_mem_legal {s : State} (h : s.mem.Legal) {r : Except Status Decoded}
    (hr : vbufTouched r ≤ 255) : (s.complete r).mem.Legal := by
  rw [State.complete_mem]
  rcases r with e | (_ | _ | _)
  · exact h.forget _ _
  all_goals exact h.storeBuf .vbuf hr

/-! ## The length of what a frame carries -/

/-- The data of a parsed frame is at most what the length byte counts (R109, R174). -/
theorem length_wire_of_parseFrame {raw : List Byte} {f : WireFrame} (h : parseFrame raw = .ok f) :
    f.wire.length ≤ 255 := by
  unfold parseFrame at h
  split at h
  case h_2 =>
    split_ifs at h
    split at h
    · rename_i len body _
      split at h
      · obtain rfl := Except.ok.inj h
        have hlen := len.isLt
        simp only [List.length_take]
        omega
      · cases h
    · cases h
  all_goals cases h

theorem vbufTouched_readAddressArm (addr : Address) (ctrl : Byte) (d : List Byte) :
    vbufTouched (readAddressArm addr ctrl d) ≤ 255 := by
  unfold readAddressArm
  split_ifs <;> simp [vbufTouched]

theorem vbufTouched_readDataArm (addr store : Address) (ctrl : Byte) (d : List Byte) (tag : Word) :
    vbufTouched (readDataArm addr ctrl d tag store) ≤ 255 := by
  unfold readDataArm
  split_ifs
  all_goals simp only [vbufTouched, List.length_drop, le_refl]
  omega

theorem vbufTouched_writeArm (ctrl : Byte) {d : List Byte} (h : d.length ≤ 255) :
    vbufTouched (writeArm ctrl d) ≤ 255 := by
  unfold writeArm
  split_ifs
  · exact le_rfl
  · exact h

/-- VBUF can hold the value of every decode (R71, R188). -/
theorem vbufTouched_decodeFrame (raw : List Byte) (func : Byte) (tag : Word) (store : Address) :
    vbufTouched (decodeFrame raw func tag store) ≤ 255 := by
  unfold decodeFrame
  split
  · exact le_rfl
  · rename_i f hf
    have hd : f.data.length ≤ 255 := by
      simpa [WireFrame.data] using length_wire_of_parseFrame hf
    unfold decodeFields dispatchReply
    split_ifs
    · exact le_rfl
    · exact le_rfl
    · exact vbufTouched_readAddressArm _ _ _
    · exact vbufTouched_readDataArm _ _ _ _ _
    · exact vbufTouched_writeArm _ hd
    · exact le_rfl

/-- A read request fills at most 20 bytes of OBUF (R116). -/
theorem length_encodeReadRequest_le (addr : Address) (func : Byte) (tag : Option Word) :
    (encodeReadRequest addr func tag).length ≤ 20 := by
  cases tag with
  | none => simp [encodeReadRequest, Laws.FrameSize.length_frame]
  | some t => simp [encodeReadRequest, Laws.FrameSize.length_frame, Laws.FrameSize.length_le32]

/-- A write request fits OBUF (R116, R161). -/
theorem length_encodeWriteRequest_le {addr : Address} {func : Byte} {pw oper p f : List Byte} {tag : Word}
    (h : encodeWriteRequest addr func pw oper tag p = some f) : f.length ≤ 271 := by
  unfold encodeWriteRequest at h
  split_ifs at h with hpw hp
  obtain rfl := Option.some.inj h
  simp only [Config.pbufSize] at hp
  simp only [Laws.FrameSize.length_frame, List.length_append, Laws.FrameSize.length_le32]
  omega

theorem State.length_writeRequest_le {s : State} {addr : Address} {func : Byte} {f : List Byte}
    (h : s.writeRequest addr func = some f) : f.length ≤ 271 := by
  unfold State.writeRequest at h
  split_ifs at h
  exact length_encodeWriteRequest_le h

/-! ## The parts of the invariant -/

/-- The part of the invariant that speaks of neither machine. -/
structure State.Stored (s : State) : Prop where
  memory : s.mem.Legal
  ibufLen : s.ibufLen.toNat ≤ 512
  obufLen : s.obufLen.toNat ≤ 271
  timing : s.cfg.pollMs ≠ 0 ∧ s.cfg.expRdAddr ≠ 0 ∧ s.cfg.expRdData ≠ 0 ∧ s.cfg.expWrite ≠ 0
  queue : s.rxq.length ≤ Config.rxDepth

/-- A transaction is about to be polled: the scanner is off, the request is pending, and the elapsed time is a
multiple of the increment (R200, R201). -/
structure State.PollDue (s : State) : Prop where
  stored : s.Stored
  off : s.sc.scs = .off
  disabled : s.ctrl.scanEn = false
  pending : s.pend.valid = true
  response : s.flags.rspValid = false
  elapsed : s.cfg.pollMs.toNat ∣ s.tx.elapsed.toNat

/-- The scanner is enabled and no transaction is in flight: the scanner may go on from here, whatever its own
registers hold (R88, R228). -/
structure State.ScanDue (s : State) : Prop where
  stored : s.Stored
  idle : s.tx.txs = .idle
  notPending : s.pend.valid = false
  enabled : s.ctrl.scanEn = true

theorem State.Inv.memory {s : State} (h : s.Inv) : s.mem.Legal := ⟨h.canonical, h.mapped⟩

theorem State.Inv.stored {s : State} (h : s.Inv) : s.Stored :=
  { h with memory := h.memory }

theorem State.Inv.notPending {s : State} (h : s.Inv) (hidle : s.tx.txs = .idle) : s.pend.valid = false := by
  simpa [hidle] using h.pending

/-- A running scanner excludes a transaction (R88). -/
theorem State.Inv.scanDue {s : State} (h : s.Inv) (hon : s.sc.scs ≠ .off) : s.ScanDue := by
  have hidle : s.tx.txs = .idle := by
    cases hs : s.tx.txs with
    | idle => rfl
    | wait => exact absurd ⟨hs, hon⟩ h.exclusive
  exact ⟨h.stored, hidle, h.notPending hidle, h.scanEnabled.2 hon⟩

/-- With no transaction in flight the invariant asks only about the store and the scanner. -/
theorem State.Stored.inv {s : State} (h : s.Stored) (hidle : s.tx.txs = .idle) (hpend : s.pend.valid = false)
    (henabled : s.ctrl.scanEn = true ↔ s.sc.scs ≠ .off)
    (hlistener : s.sc.scs = .dispatch → s.ctrl.listenerEn = true)
    (hcount : s.scanning = true → 1 ≤ s.sc.cnt.toNat ∧ s.sc.cnt.toNat ≤ 10) : s.Inv :=
  { h with
    canonical := h.memory.1
    mapped := h.memory.2
    exclusive := by simp [hidle]
    scanEnabled := henabled
    pending := by simp [hidle, hpend]
    listener := hlistener
    response := by simp [hidle]
    pollCount := by simp [hidle]
    elapsed := by simp [hidle]
    scanCount := hcount }

/-- Whatever keeps the two machines' registers and `CTRL` keeps the invariant while no transaction is in
flight, if what it stores is legal. -/
theorem State.Inv.of_stored {s t : State} (h : s.Inv) (hidle : s.tx.txs = .idle) (ht : t.Stored)
    (htx : t.tx = s.tx := by simp) (hpend : t.pend = s.pend := by simp) (hsc : t.sc = s.sc := by simp)
    (hctrl : t.ctrl = s.ctrl := by simp) : t.Inv := by
  refine ht.inv (htx ▸ hidle) (hpend ▸ h.notPending hidle) ?_ ?_ ?_
  · rw [hctrl, hsc]
    exact h.scanEnabled
  · rw [hctrl, hsc]
    exact h.listener
  · rw [State.scanning, hsc]
    exact h.scanCount

/-! ## The scanner -/

/-- A scanner that starts to count ten ticks (R228, R234). -/
theorem State.ScanDue.counting {s : State} (h : s.ScanDue) (hs : s.scanning = true) (hcnt : s.sc.cnt = 10) :
    s.Inv := by
  have hs' : s.sc.scs = .sleep ∨ s.sc.scs = .waitBody := by simpa [State.scanning] using hs
  refine h.stored.inv h.idle h.notPending ?_ ?_ ?_
  · rcases hs' with hs' | hs' <;> simp [hs', h.enabled]
  · rcases hs' with hs' | hs' <;> simp [hs']
  · simp [hcnt]

theorem State.ScanDue.scanSleep {s : State} (h : s.ScanDue) : s.scanSleep.Inv :=
  State.ScanDue.counting (s := s.scanSleep) { h with stored := { h.stored with } } rfl rfl

/-- An event is presented or dropped (R242, R243). -/
theorem State.ScanDue.offerEvent {s : State} (h : s.ScanDue) (c : Byte) (g : Word) {l : List Byte}
    (hl : l.length ≤ 255) : (s.offerEvent c g l).Inv := by
  unfold State.offerEvent
  split
  · rename_i hlistener
    have hstored : (s.presentEvent c g l).Stored :=
      { h.stored with memory := h.stored.memory.storeBuf .evbuf hl }
    exact hstored.inv h.idle h.notPending (by simp [h.enabled]) (fun _ => hlistener) (by simp [State.scanning])
  · exact h.scanSleep

/-- A frame is classified (R239, R240). -/
theorem State.ScanDue.classify {s : State} (h : s.ScanDue) (c : Byte) {d : List Byte}
    (hd : d.length ≤ 255) : (s.classify c d).Inv := by
  unfold State.classify State.taggedEvent
  split_ifs
  · exact h.offerEvent _ _ hd
  · exact State.ScanDue.scanSleep { h with stored := { h.stored with } }
  · refine h.offerEvent _ _ ?_
    rw [List.length_drop]
    omega

/-- Bytes are taken from the queue (R78). -/
theorem State.Stored.dropRxq {s : State} (h : s.Stored) (n : Nat) :
    State.Stored { s with rxq := s.rxq.drop n } := by
  refine { h with queue := ?_ }
  rw [List.length_drop]
  exact (Nat.sub_le _ _).trans h.queue

/-- The body test reads and classifies the body, or waits ten more ticks (R234). -/
theorem State.ScanDue.bodyCheck {s t : State} (h : s.ScanDue) (ht : s.bodyCheck = .ok t) : t.Inv := by
  rcases s.bodyCheck_cases with ⟨hlen, e⟩ | ⟨-, e⟩
  · rw [e, s.scanBody_eq hlen] at ht
    obtain rfl := Except.ok.inj ht
    refine State.ScanDue.classify ?_ _ ?_
    · exact { h with stored := { h.stored.dropRxq _ with } }
    · have hlen := s.sc.len.isLt
      simp only [List.length_map, List.length_take]
      omega
  · rw [e] at ht
    obtain rfl := Except.ok.inj ht
    exact State.ScanDue.counting { h with stored := { h.stored with } } rfl rfl

/-- The scanner's cycle (R228 to R234). -/
theorem State.ScanDue.scanCycle {s t : State} (h : s.ScanDue) (ht : s.scanCycle = .ok t) : t.Inv := by
  rcases s.scanCycle_cases with ⟨-, e⟩ | ⟨-, -, e⟩ | ⟨-, -, -, e⟩ | ⟨-, -, -, e⟩
  · obtain rfl := Except.ok.inj (e.symm.trans ht)
    exact h.scanSleep
  · obtain rfl := Except.ok.inj (e.symm.trans ht)
    exact State.ScanDue.scanSleep { h with stored := h.stored.dropRxq 1 }
  · obtain rfl := Except.ok.inj (e.symm.trans ht)
    exact State.ScanDue.scanSleep { h with stored := { h.stored.dropRxq 8 with } }
  · refine State.ScanDue.bodyCheck ?_ (e.symm.trans ht)
    exact { h with stored := { h.stored.dropRxq 10 with } }

/-- The scanner's reaction to a tick: a count that has not ended stays in its range (R36, R227, R238). -/
theorem State.Inv.scanTick {s t : State} (h : s.Inv) (ht : s.scanTick = .ok t) : t.Inv := by
  have hdue (hon : s.sc.scs ≠ .off) : State.ScanDue { s with sc := { s.sc with cnt := s.sc.cnt - 1 } } :=
    { h.scanDue hon with stored := { h.stored with } }
  have hcount (hs : s.scanning = true) (hne : s.sc.cnt - 1 ≠ 0) :
      State.Inv { s with sc := { s.sc with cnt := s.sc.cnt - 1 } } := by
    have hrange := h.scanCount hs
    exact { h with scanCount := fun _ => ⟨by bv_omega, by bv_omega⟩ }
  unfold State.scanTick at ht
  dsimp only at ht
  split at ht
  case h_1 | h_4 => exact Except.ok.inj ht ▸ h
  case h_2 hs =>
    split at ht
    · exact (hdue (by simp [hs])).scanCycle ht
    · exact Except.ok.inj ht ▸ hcount (by simp [State.scanning, hs]) ‹_›
  case h_3 hs =>
    split at ht
    · exact (hdue (by simp [hs])).bodyCheck ht
    · exact Except.ok.inj ht ▸ hcount (by simp [State.scanning, hs]) ‹_›

/-- The return from an event (R244). -/
theorem State.ScanDue.releaseEvent {s : State} (h : s.ScanDue) : s.releaseEvent.Inv :=
  State.ScanDue.scanSleep
    { h with stored := { h.stored with memory := h.stored.memory.forget _ _ } }

/-! ## The transaction -/

/-- A completed decode, with no transaction in flight (R170, R188, R291). -/
theorem State.Inv.complete {s : State} (h : s.Inv) (hidle : s.tx.txs = .idle) {r : Except Status Decoded}
    (hr : vbufTouched r ≤ 255) : (s.complete r).Inv := by
  refine h.of_stored hidle ?_
  exact
    { memory := State.complete_mem_legal h.memory hr
      ibufLen := by simpa using h.ibufLen
      obufLen := by simpa using h.obufLen
      timing := by simpa using h.timing
      queue := by simpa using h.queue }

/-- The end of a transaction is a completed decode in an idle block with an empty queue (R205). -/
theorem State.PollDue.finish {s : State} (h : s.PollDue) {r : Except Status Decoded}
    (hr : vbufTouched r ≤ 255) : (s.finish r).Inv := by
  refine State.Inv.complete ?_ rfl hr
  refine State.Stored.inv { h.stored with queue := Nat.zero_le _ } rfl rfl ?_ ?_ ?_
  all_goals simp [h.off, h.disabled, State.scanning]

/-- The read step of a transaction (R203 to R205). -/
theorem State.PollDue.finishRead {s t : State} (h : s.PollDue) (ht : s.finishRead = .ok t) : t.Inv := by
  rw [State.finishRead_eq] at ht
  obtain rfl := Except.ok.inj ht
  refine State.PollDue.finish ?_ (vbufTouched_decodeFrame _ _ _ _)
  refine { h with stored := { h.stored.dropRxq _ with memory := ?_, ibufLen := ?_ } }
  · refine h.stored.memory.storeBuf .ibuf ?_
    simp only [List.length_take, Buf.size, Config.ibufSize]
    omega
  · simp only [BitVec.toNat_ofNat]
    omega

/-- A request put into OBUF (R158, R160, R199). -/
theorem State.Stored.writeObuf {s : State} (h : s.Stored) {f : List Byte} (hf : f.length ≤ 271) :
    (s.writeObuf f).Stored := by
  refine { h with memory := h.memory.storeBuf .obuf hf, obufLen := ?_ }
  simp only [State.writeObuf_obufLen, BitVec.toNat_ofNat]
  omega

/-- An encoder that failed (R160, R210). -/
theorem State.Stored.obufLost {s : State} (h : s.Stored) : s.obufLost.Stored :=
  { h with memory := h.memory.forget _ _, obufLen := Nat.zero_le _ }

theorem State.Stored.resultLost {s : State} (h : s.Stored) : s.resultLost.Stored :=
  { h with memory := h.memory.forget _ _ }

theorem State.Stored.rxClear {s : State} (h : s.Stored) : s.rxClear.Stored :=
  { h with queue := Nat.zero_le _ }

theorem State.Stored.post {s : State} (h : s.Stored) {e : Status} : (s.post e).Stored := { h with }

/-- A poll: the transaction ends, or it waits one more increment within the budget (R200, R206). -/
theorem State.PollDue.poll {s t : State} (h : s.PollDue) (ht : s.poll = .ok t) : t.Inv := by
  rcases s.poll_cases with ⟨-, e⟩ | ⟨-, -, -, e⟩ | ⟨-, -, -, e⟩ | ⟨-, hbudget, e⟩
  · exact h.finishRead (e.symm.trans ht)
  · exact h.finishRead (e.symm.trans ht)
  · obtain rfl := Except.ok.inj (e.symm.trans ht)
    refine State.PollDue.finish ?_ le_rfl
    exact { h with stored := { h.stored with memory := h.stored.memory.forget _ _, ibufLen := Nat.zero_le _ } }
  · obtain rfl := Except.ok.inj (e.symm.trans ht)
    obtain ⟨hpoll, -⟩ := h.stored.timing
    exact
      { h.stored with
        canonical := h.stored.memory.1
        mapped := h.stored.memory.2
        exclusive := by simp [h.off]
        scanEnabled := by simp [h.off, h.disabled]
        pending := by simp [h.pending]
        listener := by simp [h.off]
        response := fun _ => h.response
        pollCount := fun _ => ⟨by bv_omega, le_rfl⟩
        elapsed := fun _ => ⟨h.elapsed, hbudget⟩
        scanCount := by simp [h.off, State.scanning] }

/-- The engine's reaction to a tick: a count that has not ended stays in its range, and the elapsed time has
room for one more increment (R35, R201). -/
theorem State.Inv.txTick {s t : State} (h : s.Inv) (ht : s.txTick = .ok t) : t.Inv := by
  unfold State.txTick at ht
  split at ht
  case isFalse => exact Except.ok.inj ht ▸ h
  case isTrue hwait =>
    dsimp only at ht
    split at ht
    · have hoff : s.sc.scs = .off := by simpa [hwait] using h.exclusive
      obtain ⟨hdvd, hbudget⟩ := h.elapsed hwait
      refine State.PollDue.poll ?_ ht
      refine ⟨{ h.stored with }, hoff, ?_, h.pending.2 hwait, h.response hwait, ?_⟩
      · simpa [hoff] using h.scanEnabled
      · have hsum : (s.tx.elapsed + s.cfg.pollMs.setWidth 17).toNat = s.tx.elapsed.toNat + s.cfg.pollMs.toNat := by
          bv_omega
        simp only [hsum]
        exact Nat.dvd_add hdvd (Nat.dvd_refl _)
    · rename_i hne
      obtain rfl := Except.ok.inj ht
      have hrange := h.pollCount hwait
      exact { h with pollCount := fun _ => ⟨by bv_omega, by bv_omega⟩ }

/-- The start step of a transaction (R199). -/
theorem State.Inv.startTx {s t : State} {o : TxOp} {func : Byte} {tag : Word} {f : List Byte} (h : s.Inv)
    (hoff : ¬ s.scanActive = true) (hrsp : s.flags.rspValid = false) (hf : f.length ≤ 271)
    (ht : outcome (s.startTx o func tag f) = .next t) : t.Inv := by
  have hoff : s.sc.scs = .off := State.off_of_not_scanActive hoff
  obtain ⟨u, hu⟩ := s.startTx_ok o func tag f
  rw [hu] at ht
  obtain rfl := Host.Outcome.next.inj ht
  refine State.PollDue.poll ?_ hu
  refine ⟨?_, hoff, ?_, rfl, hrsp, ?_⟩
  · exact { h.stored.writeObuf hf with }
  · simpa [hoff] using h.scanEnabled
  · exact Nat.dvd_zero _

/-! ## Commands -/

/-- A command posts its status while no transaction is in flight (R290). -/
theorem State.Inv.post {s : State} (h : s.Inv) (hidle : s.tx.txs = .idle) (e : Status) : (s.post e).Inv :=
  { h with response := by simp [hidle] }

/-- Every accepted host command keeps the invariant. -/
theorem State.Inv.exec {i : Instr} {w : Word} (hi : encode i = .command w) {s t : State} (h : s.Inv)
    (hidle : s.tx.txs = .idle) (hrsp : s.flags.rspValid = false) (ht : exec i s = .next t) : t.Inv := by
  cases i
  all_goals simp only [encode, Code.command.injEq, reduceCtorEq] at hi
  case decFrame =>
    obtain rfl := Host.Outcome.next.inj ht
    exact h.complete hidle (vbufTouched_decodeFrame _ _ _ _)
  case encRead =>
    obtain rfl := Host.Outcome.next.inj ht
    have hlen := length_encodeReadRequest_le s.op.address s.op.func s.op.tag?
    exact h.of_stored hidle (h.stored.writeObuf (hlen.trans (by omega))).post
  case encWrite =>
    simp only [Machine.exec, execEncWrite] at ht
    split at ht
    · obtain rfl := Host.Outcome.next.inj ht
      exact h.of_stored hidle h.stored.obufLost.post
    · obtain rfl := Host.Outcome.next.inj ht
      exact h.of_stored hidle (h.stored.writeObuf (State.length_writeRequest_le ‹_›)).post
  case txReadAddress | txReadData =>
    simp only [Machine.exec, execTxReadAddress, execTxReadData] at ht
    split at ht
    · obtain rfl := Host.Outcome.next.inj ht
      exact h.post hidle _
    · exact h.startTx ‹_› hrsp ((length_encodeReadRequest_le _ _ _).trans (by omega)) ht
  case txWriteData =>
    simp only [Machine.exec, execTxWriteData] at ht
    split at ht
    · obtain rfl := Host.Outcome.next.inj ht
      exact h.post hidle _
    · split at ht
      · obtain rfl := Host.Outcome.next.inj ht
        exact h.of_stored hidle h.stored.obufLost.resultLost.rxClear.post
      · exact h.startTx ‹_› hrsp (State.length_writeRequest_le ‹_›) ht
  case evAck =>
    simp only [Machine.exec, execEvAck] at ht
    split at ht
    · rename_i hev
      obtain rfl := Host.Outcome.next.inj ht
      have hev : s.sc.scs = .dispatch := by simpa [State.evValid] using hev
      exact State.Inv.post (h.scanDue (by simp [hev])).releaseEvent hidle _
    · obtain rfl := Host.Outcome.next.inj ht
      exact h.post hidle _
  case csUpdateRange =>
    simp only [Machine.exec, execCsUpdateRange] at ht
    split at ht
    all_goals
      obtain rfl := Host.Outcome.next.inj ht
      exact h.of_stored hidle { h.stored with }
  case bcdDecode =>
    simp only [Machine.exec, execBcdDecode] at ht
    split at ht
    · obtain rfl := Host.Outcome.next.inj ht
      exact h.post hidle _
    · split at ht
      all_goals
        obtain rfl := Host.Outcome.next.inj ht
        exact h.of_stored hidle { h.stored with }
  all_goals
    obtain rfl := Host.Outcome.next.inj ht
    exact h.of_stored hidle { h.stored with }

/-! ## Host accesses -/

/-- The event registers and EVBUF lose their contents (R244). -/
theorem State.Inv.eventLost {s : State} (h : s.Inv) : s.eventLost.Inv :=
  { h with canonical := (h.memory.forget _ _).1, mapped := (h.memory.forget _ _).2 }

/-- The scanner stops at once from any state (R245). -/
theorem State.Inv.scanOff {s : State} (h : s.Inv) :
    State.Inv { s with ctrl := { s.ctrl with scanEn := false }, sc := { s.sc with scs := .off } } :=
  { h with
    exclusive := by simp
    scanEnabled := by simp
    listener := by simp
    scanCount := by simp [State.scanning] }

theorem State.Inv.scanStop {s : State} (h : s.Inv) : s.scanStop.Inv := by
  unfold State.scanStop
  split
  · exact h.eventLost.scanOff
  · exact h.scanOff

/-- `SCAN_EN` is written (R25, R226, R245). -/
theorem State.Inv.setScanEn {s : State} (h : s.Inv) (en : Bool) : (s.setScanEn en).Inv := by
  unfold State.setScanEn
  split_ifs with hstart hbusy hstop
  · exact { h with }
  · have hidle := State.idle_of_not_busy hbusy
    exact State.ScanDue.scanSleep ⟨{ h.stored with }, hidle, h.notPending hidle, rfl⟩
  · exact h.scanStop
  · exact h

/-- `LISTENER_EN` is written; an event loses its listener with it (R25, R244). -/
theorem State.Inv.setListener {s : State} (h : s.Inv) (en : Bool) : (s.setListener en).Inv := by
  unfold State.setListener
  dsimp only
  split
  · rename_i hdrop
    have hev : s.sc.scs = .dispatch := of_decide_eq_true (Bool.and_eq_true_iff.1 hdrop).2
    exact State.ScanDue.releaseEvent { h.scanDue (by simp [hev]) with stored := { h.stored with } }
  · rename_i hkeep
    refine { h with listener := fun hev => ?_ }
    simpa [State.evValid, show s.sc.scs = .dispatch from hev] using hkeep

/-- A write under the lock keeps the invariant when it would with no transaction in flight (R33). -/
theorem State.Inv.unlessBusy {s t : State} (h : s.Inv) (ht : s.tx.txs = .idle → t.Inv) :
    (s.unlessBusy t).Inv := by
  cases hs : s.tx.txs with
  | wait =>
    rw [State.unlessBusy_of_wait hs]
    exact { h with }
  | idle =>
    rw [State.unlessBusy_of_idle hs]
    exact ht hs

theorem atLeastOne_ne_zero {w : Nat} (hw : 0 < w) (v : BitVec w) : atLeastOne v ≠ 0 := by
  have h := toNat_atLeastOne hw v
  intro h0
  rw [h0] at h
  simp at h
  omega

/-- A register write keeps the invariant: the timing registers and `IBUF_LEN` store legal values (R31, R32),
and the lock keeps them still in `T_WAIT` (R33). -/
theorem State.Inv.writeReg {s : State} (h : s.Inv) (r : Reg) (v : Word) : (s.writeReg r v).Inv := by
  cases r
  case ctrl => exact (h.setScanEn _).setListener _
  case status => exact { h with }
  case opFunc | opTag | opPw | opOper | opLens | opAddrLo | opAddrHi | opRange | opDp | opByte =>
    exact h.unlessBusy fun _ => { h with }
  case timeoutMs => exact h.unlessBusy fun hidle => h.of_stored hidle { h.stored with }
  case ibufLen =>
    refine h.unlessBusy fun hidle => h.of_stored hidle { h.stored with ibufLen := ?_ }
    rw [toNat_clampIbufLen]
    exact Nat.min_le_left _ _
  case pollMs =>
    obtain ⟨-, hrest⟩ := h.timing
    exact h.unlessBusy fun hidle =>
      h.of_stored hidle { h.stored with timing := ⟨atLeastOne_ne_zero (by decide) _, hrest⟩ }
  case explen =>
    obtain ⟨hpoll, -⟩ := h.timing
    have hone (b : Byte) : atLeastOne b ≠ 0 := atLeastOne_ne_zero (by decide) b
    exact h.unlessBusy fun hidle =>
      h.of_stored hidle { h.stored with timing := ⟨hpoll, hone _, hone _, hone _⟩ }
  all_goals exact h

/-- A buffer write stores a byte of IBUF or PBUF, or nothing (R71, R74). -/
theorem State.Inv.writeBufAt {s : State} (h : s.Inv) (off : Nat) (b : Byte) : (s.writeBufAt off b).Inv := by
  by_cases hoff : ∃ c : Buf, bufAt off = some c ∧ c.hostWritable = true
  · obtain ⟨c, hc, hw⟩ := hoff
    obtain ⟨hlo, hhi⟩ := bufAt_eq_some_iff.1 hc
    rw [s.writeBufAt_stored b hc hw]
    exact h.unlessBusy fun hidle =>
      h.of_stored hidle { h.stored with memory := h.memory.storeList c (l := [b]) hlo hhi }
  · rw [s.writeBufAt_ignored b hoff]
    exact h

/-! ## Steps -/

theorem State.Inv.hostWrite {off : Nat} {v : Word} {s t : State} (h : s.Inv)
    (ht : hostWrite off v s = .next t) : t.Inv := by
  rcases hostWrite_eq_cases off v s with e | ⟨r, -, e⟩ | ⟨-, e⟩ | ⟨-, hidle, e⟩
  · exact Host.Outcome.next.inj (e.symm.trans ht) ▸ h
  · exact Host.Outcome.next.inj (e.symm.trans ht) ▸ h.writeReg r v
  · exact Host.Outcome.next.inj (e.symm.trans ht) ▸ { h with }
  · refine State.Inv.exec (encode_decodeCommand v) ?_ ?_ ?_ (e.symm.trans ht)
    · exact h.of_stored hidle { h.stored with }
    · exact hidle
    · rfl

/-- A byte arrives only while the queue has room (R81). -/
theorem State.Inv.rxArrive {s : State} (h : s.Inv) (b : Byte) : (s.rxArrive b).Inv := by
  rcases s.rxArrive_cases b with ⟨hroom, e⟩ | ⟨-, e⟩
  · rw [e]
    exact { h with queue := by simpa using hroom }
  · rw [e]
    exact h

/-- Every move keeps the invariant. -/
theorem State.Inv.runMove {m : Move} {s t : State} (h : s.Inv) (ht : runMove m s = .next t) : t.Inv := by
  cases m with
  | regWrite off v => exact h.hostWrite ht
  | bufWrite off b => exact Host.Outcome.next.inj ht ▸ h.writeBufAt off b
  | rxByte b => exact Host.Outcome.next.inj ht ▸ h.rxArrive b
  | tick =>
    obtain ⟨u, hu, hscan⟩ := tick_cases ht
    exact (h.txTick hu).scanTick hscan
  | reset =>
    obtain rfl := Host.Outcome.next.inj ht
    exact { invariantAtReset with queue := h.queue }
  | regRead | bufRead =>
    obtain rfl := Host.Outcome.next.inj ht
    exact { h with }

/-- Settles O59: taking a move changes nothing the invariant speaks of, and every move keeps it. -/
theorem invariantKeptByStep : Obligations.InvariantKeptByStep := by
  intro s t h ht
  rcases step_cases ht with ⟨-, rfl⟩ | ⟨m, rest, -, hrun⟩
  · exact h
  · exact State.Inv.runMove (s := s.takeMove rest) { h with } hrun

end Sys2Proof.Machine

/-! What is handed to the transport: the encoder's frames in the spec's formulas, what each operation leaves of
`TXS_OUT`, and the statement that only an accepted `TX_*` command sends (R76, R80, R207 to R209). -/

namespace Sys2Proof.Machine

/-! ## The encoder's frames in the spec's formulas -/

/-- The checksum is the plain sum modulo 256 (R140). -/
theorem toNat_checksum8 (l : List Byte) : (checksum8 l).toNat = byteSum l % 256 := by
  induction l with
  | nil => rfl
  | cons b l ih =>
    have hsum : byteSum (b :: l) = b.toNat + byteSum l := rfl
    rw [checksum8, BitVec.toNat_add, ih, hsum]
    omega

theorem checksum8_eq (l : List Byte) : checksum8 l = BitVec.ofNat 8 (byteSum l % 256) := by
  rw [← toNat_checksum8, BitVec.ofNat_toNat, BitVec.setWidth_eq]

/-- The transform adds 0x33 modulo 256 (R150). -/
theorem add33_eq (b : Byte) : add33 b = BitVec.ofNat 8 ((b.toNat + 0x33) % 256) := by
  apply BitVec.eq_of_toNat_eq
  simp [add33, Config.xfOffset, BitVec.toNat_add]

/-- The encoder's frame is the frame of R155. -/
theorem frame_eq_frameSpec (addr : Address) (ctrl : Byte) (data : List Byte) :
    frame addr ctrl data = frameSpec addr ctrl data := by
  have hadd : add33 = fun d => BitVec.ofNat 8 ((d.toNat + 0x33) % 256) := funext add33_eq
  simp [frame, WireFrame.build, WireFrame.bytes, WireFrame.covered, WireFrame.len, frameSpec, leading,
    Config.leadCount, Config.leadByte, Config.startByte, Config.endByte, Address.bytes, checksum8_eq, hadd]

/-- Byte `i` of a word is the word divided by `256^i`, modulo 256 (R110). -/
theorem extractByte_eq (t : Word) (i : Nat) :
    t.extractLsb' (8 * i) 8 = BitVec.ofNat 8 (t.toNat / 256 ^ i % 256) := by
  apply BitVec.eq_of_toNat_eq
  rw [toNat_cut, Nat.pow_mul]
  simp

theorem unpack_eq_tagBytes (t : Word) : unpack t = tagBytes t :=
  List.map_congr_left (l := List.range 4) fun i _ => extractByte_eq t i

/-- `le32` and the packing of the operand registers are one order (R11, R30). -/
theorem le32_eq_tagBytes (t : Word) : le32 t = tagBytes t := unpack_eq_tagBytes t

theorem encodeReadRequest_none (addr : Address) (func : Byte) :
    encodeReadRequest addr func none = frameSpec addr func [] := by
  simp [encodeReadRequest, frame_eq_frameSpec]

theorem encodeReadRequest_some (addr : Address) (func : Byte) (t : Word) :
    encodeReadRequest addr func (some t) = frameSpec addr func (tagBytes t) := by
  simp [encodeReadRequest, frame_eq_frameSpec, le32_eq_tagBytes]

theorem State.writeLensGood_iff (s : State) : s.op.writeLensGood = true ↔ s.lengthsGood := by
  simp only [OperandRegs.writeLensGood, Bool.and_eq_true, decide_eq_true_eq, and_assoc]
  rfl

/-- A write request is built exactly with legal lengths, and it is the frame of R157 (R160, R161). -/
theorem State.writeRequest_eq_some {s : State} {addr : Address} {func : Byte} {f : List Byte}
    (h : s.writeRequest addr func = some f) : s.lengthsGood ∧ f = frameSpec addr func s.writeData := by
  unfold State.writeRequest encodeWriteRequest at h
  split_ifs at h with hlens hpw hplen
  refine ⟨s.writeLensGood_iff.1 hlens, (Option.some.inj h).symm.trans ?_⟩
  simp [frame_eq_frameSpec, le32_eq_tagBytes, unpack_eq_tagBytes, State.writeData, State.memRead, Buf.base]

/-! ## What leaves TXS_OUT alone -/

theorem State.unlessBusy_txOut {s t : State} (h : t.txOut = s.txOut) : (s.unlessBusy t).txOut = s.txOut := by
  unfold State.unlessBusy
  split
  · rfl
  · exact h

theorem State.setScanEn_txOut (s : State) (en : Bool) : (s.setScanEn en).txOut = s.txOut := by
  unfold State.setScanEn State.scanStop
  split_ifs <;> rfl

theorem State.setListener_txOut (s : State) (en : Bool) : (s.setListener en).txOut = s.txOut := by
  unfold State.setListener
  dsimp only
  split <;> rfl

theorem State.writeReg_txOut (s : State) (r : Reg) (v : Word) : (s.writeReg r v).txOut = s.txOut := by
  cases r
  case ctrl => exact (State.setListener_txOut _ _).trans (State.setScanEn_txOut s _)
  case opFunc | opTag | opPw | opOper | opLens | opAddrLo | opAddrHi | opRange | opDp | opByte
    | ibufLen | timeoutMs | pollMs | explen => exact State.unlessBusy_txOut rfl
  all_goals rfl

theorem State.writeBufAt_txOut (s : State) (off : Nat) (b : Byte) : (s.writeBufAt off b).txOut = s.txOut := by
  unfold State.writeBufAt
  split
  · rfl
  · split
    · exact State.unlessBusy_txOut rfl
    · rfl

theorem State.rxArrive_txOut (s : State) (b : Byte) : (s.rxArrive b).txOut = s.txOut := by
  rcases s.rxArrive_cases b with ⟨-, h⟩ | ⟨-, h⟩
  · rw [h]
  · rw [h]

theorem State.finishRead_txOut {s t : State} (h : s.finishRead = .ok t) : t.txOut = s.txOut := by
  rw [State.finishRead_eq] at h
  obtain rfl := Except.ok.inj h
  exact State.finish_txOut _ _

/-- A poll sends nothing (R200, R203). -/
theorem State.poll_txOut {s t : State} (h : s.poll = .ok t) : t.txOut = s.txOut := by
  rcases s.poll_cases with ⟨-, e⟩ | ⟨-, -, -, e⟩ | ⟨-, -, -, e⟩ | ⟨-, -, e⟩
  · exact State.finishRead_txOut (e.symm.trans h)
  · exact State.finishRead_txOut (e.symm.trans h)
  · obtain rfl := Except.ok.inj (e.symm.trans h)
    exact State.finish_txOut _ _
  · obtain rfl := Except.ok.inj (e.symm.trans h)
    rfl

theorem State.txTick_txOut {s t : State} (h : s.txTick = .ok t) : t.txOut = s.txOut := by
  unfold State.txTick at h
  split at h
  · dsimp only at h
    split at h
    · exact (State.poll_txOut h).trans rfl
    · exact Except.ok.inj h ▸ rfl
  · exact Except.ok.inj h ▸ rfl

/-- A tick sends nothing (R201, R300). -/
theorem tick_txOut {s t : State} (h : tick s = .next t) : t.txOut = s.txOut := by
  obtain ⟨u, hu, hscan⟩ := tick_cases h
  obtain ⟨hkeep, -⟩ := State.scanTick_scannerOnly hscan
  have hscanner : t.txOut = u.txOut := by rw [hkeep]
  exact hscanner.trans (State.txTick_txOut hu)

/-! ## What is sent -/

/-- The start step sends the whole request at once, and nothing after it (R80, R199). -/
theorem State.startTx_txOut {s t : State} {o : TxOp} {func : Byte} {tag : Word} {f : List Byte}
    (h : outcome (s.startTx o func tag f) = .next t) : t.txOut = s.txOut ++ f := by
  obtain ⟨u, hu⟩ := s.startTx_ok o func tag f
  rw [hu] at h
  obtain rfl := Host.Outcome.next.inj h
  exact State.poll_txOut hu

/-- The payload of a write request depends on the operand registers, the memory and the move alone (R209). -/
theorem State.writeData_congr {s t : State} (hop : t.op = s.op) (hmem : t.mem = s.mem)
    (hfree : t.free = s.free) : t.writeData = s.writeData := by
  have hbyte (c : Nat) : t.byteAt c = s.byteAt c := by
    rw [State.byteAt, State.byteAt, hmem, State.unlistedByte, State.unlistedByte, hfree]
  rw [State.writeData, State.writeData, hop, State.bytesAt_congr fun c _ _ => hbyte c]

/-- Accepting a command leaves the payload alone (R28). -/
theorem State.writeData_setFlags (s : State) (x : StatusFlags) :
    State.writeData { s with flags := x } = s.writeData :=
  State.writeData_congr rfl rfl rfl

/-- What the command of opcode `op` may hand to the transport: the request frame of a transaction, with the
scanner off (R196, R207 to R209). -/
def State.commandSends (s t : State) (op : Nat) : Prop :=
  s.sc.scs = .off ∧
    ((op = 0x20 ∧ t.txOut = s.txOut ++ frameSpec s.addr 0x13 []) ∨
     (op = 0x21 ∧ t.txOut = s.txOut ++ frameSpec s.addr 0x11 (tagBytes s.op.tag)) ∨
     (op = 0x22 ∧ s.lengthsGood ∧ t.txOut = s.txOut ++ frameSpec s.addr 0x14 s.writeData))

/-- Each host command: it sends nothing, or it is one that sends its request. -/
theorem exec_txOut {i : Instr} {w : Word} (hi : encode i = .command w) {s t : State}
    (h : exec i s = .next t) : t.txOut = s.txOut ∨ s.commandSends t w.toNat := by
  cases i
  all_goals simp only [encode, Code.command.injEq, reduceCtorEq] at hi
  all_goals subst hi
  case decFrame | encRead =>
    obtain rfl := Host.Outcome.next.inj h
    exact .inl (by simp)
  case csUpdateRange | encWrite | evAck =>
    simp only [exec, execCsUpdateRange, execEncWrite, execEvAck] at h
    split at h
    all_goals
      obtain rfl := Host.Outcome.next.inj h
      exact .inl (by simp)
  case bcdDecode =>
    simp only [exec, execBcdDecode] at h
    split at h
    · obtain rfl := Host.Outcome.next.inj h
      exact .inl rfl
    · split at h
      all_goals
        obtain rfl := Host.Outcome.next.inj h
        exact .inl rfl
  case txReadAddress =>
    simp only [exec, execTxReadAddress, encodeReadRequest_none] at h
    split at h
    · exact .inl (Host.Outcome.next.inj h ▸ rfl)
    · exact .inr ⟨State.off_of_not_scanActive ‹_›, .inl ⟨rfl, State.startTx_txOut h⟩⟩
  case txReadData =>
    simp only [exec, execTxReadData, encodeReadRequest_some] at h
    split at h
    · exact .inl (Host.Outcome.next.inj h ▸ rfl)
    · exact .inr ⟨State.off_of_not_scanActive ‹_›, .inr (.inl ⟨rfl, State.startTx_txOut h⟩)⟩
  case txWriteData =>
    simp only [exec, execTxWriteData] at h
    split at h
    · exact .inl (Host.Outcome.next.inj h ▸ rfl)
    · rename_i hon
      split at h
      · obtain rfl := Host.Outcome.next.inj h
        exact .inl (by simp)
      · rename_i f hf
        obtain ⟨hlens, hframe⟩ := State.writeRequest_eq_some hf
        rw [hframe] at h
        exact .inr ⟨State.off_of_not_scanActive hon, .inr (.inr ⟨rfl, hlens, State.startTx_txOut h⟩)⟩
  all_goals
    obtain rfl := Host.Outcome.next.inj h
    exact .inl rfl

/-- A host write sends nothing, or it is an accepted command that sends its request (R28). -/
theorem hostWrite_txOut {off : Nat} {v : Word} {s t : State} (h : hostWrite off v s = .next t) :
    t.txOut = s.txOut ∨ (off = 0x08 ∧ s.tx.txs = .idle ∧ s.commandSends t (v.toNat % 256)) := by
  rcases hostWrite_eq_cases off v s with e | ⟨r, -, e⟩ | ⟨-, e⟩ | ⟨hoff, hidle, e⟩
  · exact .inl (Host.Outcome.next.inj (e.symm.trans h) ▸ rfl)
  · exact .inl (Host.Outcome.next.inj (e.symm.trans h) ▸ s.writeReg_txOut r v)
  · exact .inl (Host.Outcome.next.inj (e.symm.trans h) ▸ rfl)
  · refine (exec_txOut (encode_decodeCommand v) (e.symm.trans h)).imp id fun hsend => ⟨hoff, hidle, ?_⟩
    rw [toNat_opcode, State.commandSends, State.writeData_setFlags] at hsend
    exact hsend

/-- Every move sends nothing, or it is an accepted command that sends its request. -/
theorem runMove_txOut {m : Move} {s t : State} (h : runMove m s = .next t) :
    t.txOut = s.txOut ∨
      ∃ v, m = .regWrite 0x08 v ∧ s.tx.txs = .idle ∧ s.commandSends t (v.toNat % 256) := by
  cases m with
  | regWrite off v =>
    refine (hostWrite_txOut h).imp id ?_
    rintro ⟨rfl, hidle, hsend⟩
    exact ⟨v, rfl, hidle, hsend⟩
  | bufWrite off b => exact .inl (Host.Outcome.next.inj h ▸ s.writeBufAt_txOut off b)
  | rxByte b => exact .inl (Host.Outcome.next.inj h ▸ s.rxArrive_txOut b)
  | tick => exact .inl (tick_txOut h)
  | regRead | bufRead | reset => exact .inl (Host.Outcome.next.inj h ▸ rfl)

/-- Settles O38: of the moves only an accepted command sends, and of the commands only the three. -/
theorem transmittedBytesOnlyGrow : Obligations.TransmittedBytesOnlyGrow := by
  refine ⟨fun s t h hne => ?_, fun _ _ => rfl⟩
  rcases step_cases h with ⟨-, rfl⟩ | ⟨m, rest, hm, hrun⟩
  · exact absurd rfl hne
  · obtain ⟨v, rfl, hidle, hoff, hsend⟩ := (runMove_txOut hrun).resolve_left hne
    have hdata : (s.takeMove rest).writeData = State.writeData { s with free := s.free + 1 } :=
      State.writeData_congr rfl rfl rfl
    rw [hdata] at hsend
    exact ⟨rest, v, hm, hidle, hoff, hsend⟩

end Sys2Proof.Machine

/-! The framing of the wire: a frame found in a byte sequence is that sequence, and a frame laid out is found
again (R101, R114, R172 to R174). -/

namespace Sys2Proof

/-- The first `0x68` is found when nothing before it is one (R172). -/
theorem splitStart_append {lead : List Byte} (h : Config.startByte ∉ lead) (rest : List Byte) :
    splitStart (lead ++ Config.startByte :: rest) = some (lead, rest) := by
  induction lead with
  | nil => simp [splitStart]
  | cons b lead ih =>
    have hb : b ≠ Config.startByte := (List.ne_of_not_mem_cons h).symm
    simp [splitStart, ih (List.not_mem_of_not_mem_cons h), hb]

/-- The parts before and after the first `0x68` (R172). -/
theorem splitStart_eq_some {raw lead rest : List Byte} (h : splitStart raw = some (lead, rest)) :
    raw = lead ++ Config.startByte :: rest ∧ Config.startByte ∉ lead := by
  induction raw generalizing lead with
  | nil => cases h
  | cons b bs ih =>
    rw [splitStart] at h
    split_ifs at h with hb
    · cases h
      exact ⟨by rw [hb, List.nil_append], List.not_mem_nil⟩
    · split at h
      · cases h
      · rename_i lead' _ hsplit
        cases h
        obtain ⟨rfl, hlead⟩ := ih hsplit
        exact ⟨rfl, List.not_mem_cons_of_ne_of_not_mem (Ne.symm hb) hlead⟩

/-- A frame written out byte by byte up to its data (R101). -/
theorem WireFrame.bytes_eq (f : WireFrame) :
    f.bytes = f.lead ++ Config.startByte :: f.addr.b0 :: f.addr.b1 :: f.addr.b2 :: f.addr.b3 :: f.addr.b4 ::
      f.addr.b5 :: Config.startByte :: f.ctrl :: f.len :: (f.wire ++ f.checksum :: f.tail) := by
  simp [WireFrame.bytes, WireFrame.covered, Address.bytes]

/-- The length byte counts the data when there are at most 255 of them (R109). -/
theorem WireFrame.toNat_len {f : WireFrame} (h : f.wire.length ≤ 255) : f.len.toNat = f.wire.length := by
  rw [WireFrame.len, BitVec.toNat_ofNat]
  omega

/-- A frame laid out is found again, field by field (R114). -/
theorem parseFrame_bytes {f : WireFrame} (hlen : f.wire.length ≤ 255) (hlead : Config.startByte ∉ f.lead) :
    parseFrame f.bytes = .ok f := by
  rw [parseFrame, f.bytes_eq, splitStart_append hlead]
  simp [WireFrame.toNat_len hlen]

/-- The data and what follows them are the bytes after the length byte, and the length byte counts the data
(R109, R174). -/
theorem body_eq_of_drop {l cs : Byte} {body tail : List Byte} (h : body.drop l.toNat = cs :: tail) :
    body = body.take l.toNat ++ cs :: tail ∧ BitVec.ofNat 8 (body.take l.toNat).length = l := by
  constructor
  · rw [← h, List.take_append_drop]
  · have hlong : (body.drop l.toNat).length = tail.length + 1 := by rw [h, List.length_cons]
    rw [List.length_drop] at hlong
    rw [List.length_take_of_le (by omega), BitVec.ofNat_toNat, BitVec.setWidth_eq]

/-- The fields found lie in the sequence in wire order, after bytes that are no start byte (R101, R172). -/
theorem bytes_of_parseFrame {raw : List Byte} {f : WireFrame} (h : parseFrame raw = .ok f) :
    f.bytes = raw ∧ Config.startByte ∉ f.lead := by
  unfold parseFrame at h
  split at h
  case h_2 hsplit =>
    obtain ⟨rfl, hlead⟩ := splitStart_eq_some hsplit
    split_ifs at h with hstart
    split at h
    · split at h
      · rename_i hbody
        cases h
        obtain ⟨hdata, hlen⟩ := body_eq_of_drop hbody
        refine ⟨?_, hlead⟩
        rw [WireFrame.bytes_eq, WireFrame.len, hlen, ← hdata, not_not.1 hstart]
      · cases h
    · cases h
  all_goals cases h

/-- Finding a frame and laying it out are inverse (R101, R114, R172). -/
theorem parseFrame_eq_ok_iff {raw : List Byte} {f : WireFrame} :
    parseFrame raw = .ok f ↔ f.bytes = raw ∧ f.wire.length ≤ 255 ∧ Config.startByte ∉ f.lead := by
  constructor
  · intro h
    obtain ⟨hraw, hlead⟩ := bytes_of_parseFrame h
    exact ⟨hraw, Machine.length_wire_of_parseFrame h, hlead⟩
  · rintro ⟨rfl, hlen, hlead⟩
    exact parseFrame_bytes hlen hlead

/-- Settles O18: what a found frame satisfies is also enough for it to be found. -/
theorem parsedFrameIsTheSequence : Obligations.ParsedFrameIsTheSequence :=
  fun _ _ h => parseFrame_eq_ok_iff.1 h

end Sys2Proof

/-! The decoder on the encoder's words: the opcodes of `CMD`, the frames of the request, reply and event spaces,
and the round trip of every well-formed instruction (R101, R113, R120, R121, R155 to R157, R178 to R184, R240). -/

namespace Sys2Proof

/-! ## The words of `CMD` -/

/-- An opcode that the table does not name is illegal (R121). -/
theorem decodeCommand_of_illegal {v : Word} (h : v.extractLsb' 0 8 ∉ legalOpcodes) :
    decodeCommand v = .cmdIllegal (v.extractLsb' 0 8) := by
  simp only [legalOpcodes, List.mem_cons, List.not_mem_nil, or_false, not_or] at h
  simp only [decodeCommand, h, if_false]

/-- An opcode put into a word of `CMD` is the word's low byte (R120). -/
theorem opcode_setWidth (op : Byte) : (op.setWidth 32).extractLsb' 0 8 = op := by
  apply BitVec.eq_of_toNat_eq
  rw [Machine.toNat_cut, BitVec.toNat_setWidth_of_le (by omega)]
  omega

/-! ## Tags and the transform -/

/-- The transform of the decoder undoes the encoder's (R154). -/
@[simp] theorem sub33_add33 (b : Byte) : sub33 (add33 b) = b := BitVec.add_sub_cancel b Config.xfOffset

/-- A tag is read back from its four bytes, whatever follows them (R110, R115). -/
@[simp] theorem fromLe32_le32_append (t : Word) (l : List Byte) : fromLe32 (le32 t ++ l) = t := by
  change (t.extractLsb' 0 8).setWidth 32 ||| (t.extractLsb' 8 8).setWidth 32 <<< 8
    ||| (t.extractLsb' 16 8).setWidth 32 <<< 16 ||| (t.extractLsb' 24 8).setWidth 32 <<< 24 = t
  simp only [Machine.lowest_field, Machine.field_in_place, ← BitVec.and_or_distrib_left]
  exact BitVec.and_allOnes

theorem fromLe32_le32 (t : Word) : fromLe32 (le32 t) = t := fromLe32_le32_append t []

/-! ## The classes of a reply -/

theorem replyOf_readAddress {c : Byte} (hbase : baseOf c = 0x13) (a : Address) (d : List Byte) :
    replyOf a c d = .rspReadAddress a c d := by
  rw [replyOf, if_pos hbase]

theorem replyOf_readDataOtherDirection {c : Byte} (hbase : baseOf c = 0x11) (hnormal : dirOf c ≠ 0x80)
    (herror : dirOf c ≠ 0xC0) (a : Address) (d : List Byte) :
    replyOf a c d = .rspReadDataOtherDirection a c d := by
  have h91 : c ≠ 0x91 := fun h => hnormal (by rw [h]; rfl)
  have hD1 : c ≠ 0xD1 := fun h => herror (by rw [h]; rfl)
  rw [replyOf, if_neg (by rw [hbase]; decide), if_pos hbase, if_neg h91, if_neg hD1]

theorem replyOf_writeOther {c : Byte} (hbase : baseOf c = 0x14) (hack : c ≠ 0x94) (herror : c ≠ 0xD4)
    (a : Address) (d : List Byte) : replyOf a c d = .rspWriteOther a c d := by
  rw [replyOf, if_neg (by rw [hbase]; decide), if_neg (by rw [hbase]; decide), if_pos hbase, if_neg hack,
    if_neg herror]

theorem replyOf_unknown {c : Byte} (h11 : baseOf c ≠ 0x11) (h13 : baseOf c ≠ 0x13) (h14 : baseOf c ≠ 0x14)
    (a : Address) (d : List Byte) : replyOf a c d = .rspUnknown a c d := by
  rw [replyOf, if_neg h13, if_neg h11, if_neg h14]

/-! ## The frames of the encoder -/

/-- A frame as it is built has the right checksum (R102, R155). -/
@[simp] theorem WireFrame.sumGood_build (lead : List Byte) (a : Address) (c : Byte) (d : List Byte) :
    (WireFrame.build lead a c d).sumGood = true :=
  decide_eq_true rfl

/-- The logical data of a frame as it is built (R103, R155). -/
@[simp] theorem WireFrame.data_build (lead : List Byte) (a : Address) (c : Byte) (d : List Byte) :
    (WireFrame.build lead a c d).data = d := by
  simp [WireFrame.data, WireFrame.build, Function.comp_def]

@[simp] theorem WireFrame.addr_build (lead : List Byte) (a : Address) (c : Byte) (d : List Byte) :
    (WireFrame.build lead a c d).addr = a := rfl

@[simp] theorem WireFrame.ctrl_build (lead : List Byte) (a : Address) (c : Byte) (d : List Byte) :
    (WireFrame.build lead a c d).ctrl = c := rfl

/-- A frame as it is built is found again (R114, R155). -/
theorem parseFrame_build {lead d : List Byte} (hlead : Config.startByte ∉ lead) (hd : d.length ≤ 255)
    (a : Address) (c : Byte) :
    parseFrame (WireFrame.build lead a c d).bytes = .ok (WireFrame.build lead a c d) :=
  parseFrame_bytes (by simpa [WireFrame.build] using hd) hlead

/-- The encoder's leading bytes are no start bytes (R104). -/
theorem startByte_not_mem_leading : Config.startByte ∉ leading := by decide

/-- A request is read from the control code and the data that were framed (R113, R156, R157). -/
theorem decode_request_frame (a : Address) (c : Byte) {d : List Byte} (hd : d.length ≤ 255) :
    decode (.request (frame a c d)) = requestOf (WireFrame.build leading a c d) := by
  simp [decode, frame, parseFrame_build startByte_not_mem_leading hd, Except.bind, checkSum]

/-- A reply is read from the control code and the data that the meter framed (R178). -/
theorem decode_reply_meterFrame (a : Address) (c : Byte) {d : List Byte} (hd : fitsLength d = true) :
    decode (.reply (meterFrame a c d)) = .ok (replyOf a c d) := by
  have hparse := parseFrame_build List.not_mem_nil (of_decide_eq_true hd) a c
  simp [decode, meterFrame, hparse, Except.bind, Except.map, checkSum]

/-- An event is read from the control code and the data that the meter framed (R240). -/
theorem decode_event_meterFrame (a : Address) (c : Byte) {d : List Byte} (hd : fitsLength d = true) :
    decode (.event (meterFrame a c d)) = .ok (eventOf a c d) := by
  have hparse := parseFrame_build List.not_mem_nil (of_decide_eq_true hd) a c
  simp [decode, meterFrame, hparse, Except.map]

/-! ## The round trip, space by space -/

theorem decode_encode_cmdIllegal {op : Byte} (h : op ∉ legalOpcodes) :
    decode (encode (.cmdIllegal op)) = .ok (.cmdIllegal op) := by
  have hop : (op.setWidth 32).extractLsb' 0 8 ∉ legalOpcodes := by rwa [opcode_setWidth]
  rw [encode, decode, decodeCommand_of_illegal hop, opcode_setWidth]

theorem decode_encode_frame {f : WireFrame} (hlen : f.wire.length ≤ 255) (hlead : Config.startByte ∉ f.lead) :
    decode (encode (.frame f)) = .ok (.frame f) := by
  rw [encode, decode, parseFrame_bytes hlen hlead]
  rfl

/-- A read request carries its tag, or nothing (R113, R156). -/
theorem decode_encodeReadRequest (a : Address) (c : Byte) (t : Option Word) :
    decode (.request (encodeReadRequest a c t))
      = requestOf (WireFrame.build leading a c (t.elim [] le32)) := by
  cases t with
  | none => simpa [encodeReadRequest] using decode_request_frame a c (d := []) (by simp)
  | some t => simpa [encodeReadRequest] using decode_request_frame a c (d := le32 t) (by simp [le32])

theorem decode_encode_reqReadData (a : Address) (t : Word) :
    decode (encode (.reqReadData a t)) = .ok (.reqReadData a t) := by
  simp [encode, decode_encodeReadRequest, requestOf, Laws.FrameSize.length_le32, fromLe32_le32]

theorem decode_encode_reqReadDataClearAlarm (a : Address) (t : Word) :
    decode (encode (.reqReadDataClearAlarm a t)) = .ok (.reqReadDataClearAlarm a t) := by
  simp [encode, decode_encodeReadRequest, requestOf, Laws.FrameSize.length_le32, fromLe32_le32]

theorem decode_encode_reqReadAddress (a : Address) :
    decode (encode (.reqReadAddress a)) = .ok (.reqReadAddress a) := by
  simp [encode, decode_encodeReadRequest, requestOf]

/-- A write request's data are its tag, password, operator and payload, each cut out at its place (R113,
R157). -/
theorem decode_encode_reqWriteData (a : Address) (t : Word) {pw oper p : List Byte} (hpw : pw.length = 4)
    (hoper : oper.length = 4) (hp : p.length ≤ Config.pbufSize) :
    decode (encode (.reqWriteData a t pw oper p)) = .ok (.reqWriteData a t pw oper p) := by
  have hframe : encodeWriteRequest a 0x14 pw oper t p = some (frame a 0x14 (le32 t ++ pw ++ oper ++ p)) := by
    simp [encodeWriteRequest, hpw, hoper, Nat.not_lt.2 hp]
  have htag : (le32 t).length = 4 := rfl
  have hlen : (le32 t ++ pw ++ oper ++ p).length = 12 + p.length := by
    simp only [List.length_append, htag, hpw, hoper]
  have htag_cut : fromLe32 (le32 t ++ pw ++ oper ++ p) = t := by
    rw [List.append_assoc, List.append_assoc, fromLe32_le32_append]
  have hpw_cut : ((le32 t ++ pw ++ oper ++ p).drop 4).take 4 = pw := by
    rw [List.append_assoc, List.append_assoc, List.drop_left' htag, List.take_left' hpw]
  have hoper_cut : ((le32 t ++ pw ++ oper ++ p).drop 8).take 4 = oper := by
    rw [List.append_assoc, List.drop_left' (by simp [htag, hpw]), List.take_left' hoper]
  have hp_cut : (le32 t ++ pw ++ oper ++ p).drop 12 = p :=
    List.drop_left' (by simp [htag, hpw, hoper])
  have hfits : 12 + p.length ≤ 255 := by
    simp only [Config.pbufSize] at hp
    omega
  rw [encode, hframe, Option.getD_some, decode_request_frame a _ (hlen.trans_le hfits)]
  simp [requestOf, hlen, htag_cut, hpw_cut, hoper_cut, hp_cut, -List.append_assoc]

/-- Settles O17: the round trip of each row of the opcode table, in the space it is encoded in. -/
theorem decodeOfEncode : Obligations.DecodeOfEncode := by
  intro i h
  cases i
  all_goals simp only [Instr.wf, Bool.and_eq_true, decide_eq_true_eq, Bool.not_eq_true',
    List.contains_eq_mem, decide_eq_false_iff_not] at h
  case cmdIllegal op => exact decode_encode_cmdIllegal h
  case frame f => exact decode_encode_frame (of_decide_eq_true h.2) h.1
  case reqReadData a t => exact decode_encode_reqReadData a t
  case reqReadDataClearAlarm a t => exact decode_encode_reqReadDataClearAlarm a t
  case reqReadAddress a => exact decode_encode_reqReadAddress a
  case reqWriteData a t pw oper p =>
    obtain ⟨⟨hpw, hoper⟩, hp⟩ := h
    exact decode_encode_reqWriteData a t hpw hoper hp
  case rspReadAddress a c d =>
    obtain ⟨hbase, hd⟩ := h
    exact (decode_reply_meterFrame a c hd).trans (congrArg _ (replyOf_readAddress hbase a d))
  case rspReadData a d => exact decode_reply_meterFrame a 0x91 h
  case rspReadDataError a d => exact decode_reply_meterFrame a 0xD1 h
  case rspReadDataOtherDirection a c d =>
    obtain ⟨⟨⟨hbase, hnormal⟩, herror⟩, hd⟩ := h
    exact (decode_reply_meterFrame a c hd).trans
      (congrArg _ (replyOf_readDataOtherDirection hbase hnormal herror a d))
  case rspWriteAck a d => exact decode_reply_meterFrame a 0x94 h
  case rspWriteError a d => exact decode_reply_meterFrame a 0xD4 h
  case rspWriteOther a c d =>
    obtain ⟨⟨⟨hbase, hack⟩, herror⟩, hd⟩ := h
    exact (decode_reply_meterFrame a c hd).trans (congrArg _ (replyOf_writeOther hbase hack herror a d))
  case rspUnknown a c d =>
    obtain ⟨⟨⟨h11, h13⟩, h14⟩, hd⟩ := h
    exact (decode_reply_meterFrame a c hd).trans (congrArg _ (replyOf_unknown h11 h13 h14 a d))
  case evtWriteReply a c d =>
    obtain ⟨hc, hd⟩ := h
    exact (decode_event_meterFrame a c hd).trans (congrArg _ (if_pos hc))
  case evtTagged a c d =>
    obtain ⟨⟨hack, herror⟩, hd⟩ := h
    exact (decode_event_meterFrame a c hd).trans (congrArg _ (if_neg (not_or.2 ⟨hack, herror⟩)))
  all_goals rfl

/-- Settles O16: the two frames are the encodings of their instructions, so they decode to them; bits 31:8 of a
word of `CMD` are ignored (R120). -/
theorem sampleWordsDecode : Obligations.SampleWordsDecode := by
  refine ⟨rfl, rfl, rfl, ?_, ?_⟩
  · exact (congrArg decode (by decide)).trans
      (decodeOfEncode (.reqReadData ⟨0x78, 0x56, 0x34, 0x12, 0x00, 0x00⟩ 0x00010000) rfl)
  · exact (congrArg decode (by decide)).trans
      (decodeOfEncode (.rspWriteAck ⟨0x78, 0x56, 0x34, 0x12, 0x00, 0x00⟩ []) rfl)

/-- Settles O55: the opcode is the word's low byte, and the table names no such byte. -/
theorem illegalOpcodes : Obligations.IllegalOpcodes := by
  constructor
  · intro v hv
    have hop : v.extractLsb' 0 8 = BitVec.ofNat 8 v.toNat := by
      apply BitVec.eq_of_toNat_eq
      rw [Machine.toNat_cut, Nat.pow_zero, Nat.div_one, BitVec.toNat_ofNat]
    have hillegal : v.extractLsb' 0 8 ∉ legalOpcodes := by
      intro hmem
      have hnum := List.mem_map_of_mem (f := BitVec.toNat) hmem
      rw [hop, BitVec.toNat_ofNat] at hnum
      exact hv hnum
    rw [decodeCommand_of_illegal hillegal, hop]
  · exact fun op s => ⟨s.post .illegalCommand, rfl, rfl, fun _ => rfl⟩

end Sys2Proof

/-! The bytes of a frame read by index, as R185 reads them. -/

namespace Sys2Proof

/-- The inverse transform adds 0xCD modulo 256 (R151). -/
theorem sub33_eq (b : Byte) : sub33 b = BitVec.ofNat 8 ((b.toNat + 0xCD) % 256) := by
  apply BitVec.eq_of_toNat_eq
  simp [sub33, Config.xfOffset, BitVec.toNat_sub]
  omega

@[simp] theorem WireFrame.length_data (f : WireFrame) : f.data.length = f.wire.length := by
  simp [WireFrame.data]

theorem WireFrame.length_covered (f : WireFrame) : f.covered.length = 10 + f.wire.length := by
  simp [WireFrame.covered, Address.bytes]
  omega

/-! ## A frame's bytes by index -/

/-- The part `l` of a sequence, read byte by byte from where it begins. -/
theorem map_getD_range (pre l post : List Byte) :
    (List.range l.length).map (fun i => (pre ++ l ++ post).getD (pre.length + i) 0) = l := by
  apply List.ext_getElem
  · simp
  · intro i hi _
    have hl : i < l.length := by simpa using hi
    simp [List.getD_eq_getElem?_getD, List.getElem?_append, hl]

/-- A byte of the frame counted from its first start byte (R101). -/
theorem WireFrame.getD_bytes (f : WireFrame) (i : Nat) :
    f.bytes.getD (f.lead.length + i) 0 = (f.covered ++ f.checksum :: f.tail).getD i 0 := by
  rw [WireFrame.bytes, List.append_assoc, List.getD_append_right _ _ _ _ (Nat.le_add_right _ _),
    Nat.add_sub_cancel_left]

/-- The first start byte of a frame's bytes is the one after its leading bytes (R172). -/
theorem WireFrame.find_startByte_bytes {f : WireFrame} (hlead : Config.startByte ∉ f.lead) :
    (List.range f.bytes.length).find? (fun i => f.bytes.getD i 0 == 0x68) = some f.lead.length := by
  have hstart : f.bytes.getD (f.lead.length + 0) 0 = 0x68 := f.getD_bytes 0
  refine List.find?_range_eq_some.2 ⟨beq_iff_eq.2 hstart, ?_, fun j hj => ?_⟩
  · rw [List.mem_range, Laws.FrameSize.length_bytes]
    omega
  · have hj' : f.bytes.getD j 0 = f.lead[j] := by
      rw [WireFrame.bytes, List.append_assoc, List.getD_append _ _ _ _ hj, List.getD_eq_getElem _ _ hj]
    rw [hj', Bool.not_eq_true', beq_eq_false_iff_ne]
    intro h
    have hmem : f.lead[j] ∈ f.lead := List.getElem_mem hj
    rw [h] at hmem
    exact hlead hmem

/-- The bytes the checksum covers, by index (R102, R185). -/
theorem WireFrame.covered_by_index (f : WireFrame) :
    (List.range (10 + f.wire.length)).map (fun i => f.bytes.getD (f.lead.length + i) 0) = f.covered := by
  rw [← WireFrame.length_covered]
  exact map_getD_range f.lead f.covered (f.checksum :: f.tail)

/-- The header's address, by index (R101, R185). -/
theorem WireFrame.addr_by_index (f : WireFrame) :
    (List.range 6).map (fun i => f.bytes.getD (f.lead.length + 1 + i) 0) = f.addr.bytes := by
  have h := map_getD_range (f.lead ++ [Config.startByte]) f.addr.bytes
    (Config.startByte :: f.ctrl :: f.len :: (f.wire ++ f.checksum :: f.tail))
  simpa [WireFrame.bytes, WireFrame.covered, Address.bytes] using h

/-- The data bytes on the wire, by index (R101, R185). -/
theorem WireFrame.wire_by_index (f : WireFrame) :
    (List.range f.wire.length).map (fun i => f.bytes.getD (f.lead.length + 10 + i) 0) = f.wire := by
  have h := map_getD_range (f.lead ++ Config.startByte :: f.addr.bytes ++ [Config.startByte, f.ctrl, f.len])
    f.wire (f.checksum :: f.tail)
  simpa [WireFrame.bytes, WireFrame.covered, Address.bytes] using h

/-- The logical data bytes, by index (R103, R185). -/
theorem WireFrame.data_by_index (f : WireFrame) :
    (List.range f.wire.length).map (fun i => BitVec.ofNat 8
      (((f.bytes.getD (f.lead.length + 10 + i) 0).toNat + 0xCD) % 256)) = f.data := by
  have hdata : f.data = f.wire.map fun b => BitVec.ofNat 8 ((b.toNat + 0xCD) % 256) :=
    List.map_congr_left fun b _ => sub33_eq b
  rw [hdata, ← congrArg (List.map _) (WireFrame.wire_by_index f), List.map_map]
  rfl

/-- The checksum byte, by index (R102, R185). -/
theorem WireFrame.checksum_by_index (f : WireFrame) :
    f.bytes.getD (f.lead.length + 10 + f.wire.length) 0 = f.checksum := by
  rw [Nat.add_assoc, f.getD_bytes, List.getD_append_right _ _ _ _ f.length_covered.le, f.length_covered,
    Nat.sub_self]
  rfl

/-- Addresses are compared byte for byte (R115). -/
theorem Address.bytes_inj {a b : Address} : a.bytes = b.bytes ↔ a = b := by
  cases a
  cases b
  simp [Address.bytes]

/-- The address in a data field is its first six bytes (R182). -/
theorem Address.ofBytes_take (d : List Byte) : Address.ofBytes (d.take 6) = Address.ofBytes d := by
  simp [Address.ofBytes]

end Sys2Proof

/-! The decoder of R185 by indices on the bytes of a frame, and the completion of a decode (R170, R175 to R188,
R205, R290, R291). -/

namespace Sys2Proof.Machine

/-! ## The strict decoder in natural numbers -/

/-- The direction of a control code is its multiple of 32 (R105). -/
theorem dirOf_eq_iff (c b : Byte) : dirOf c = b ↔ c.toNat / 32 * 32 = b.toNat := by
  have hdir : dirOf c = c >>> 5 <<< 5 := (BitVec.shiftLeft_ushiftRight (x := c) (n := 5)).symm
  rw [← BitVec.toNat_inj, hdir, BitVec.toNat_shiftLeft, BitVec.toNat_ushiftRight, Nat.shiftRight_eq_div_pow,
    Nat.shiftLeft_eq]
  omega

/-- The checksum test in natural numbers (R140, R175). -/
theorem sumGood_iff (f : WireFrame) : f.sumGood = true ↔ byteSum f.covered % 256 = f.checksum.toNat := by
  rw [WireFrame.sumGood, decide_eq_true_eq, ← BitVec.toNat_inj, toNat_checksum8]

/-- The strict decoder on the bytes of a frame is the decoder on its fields (R172 to R174). -/
theorem decodeFrame_bytes {f : WireFrame} (hlen : f.wire.length ≤ 255) (hlead : Config.startByte ∉ f.lead)
    (func : Byte) (tag : Word) (store : Address) :
    decodeFrame f.bytes func tag store = decodeFields f func tag store := by
  rw [decodeFrame, parseFrame_bytes hlen hlead]

/-- On the bytes of a frame the decoder of R185 is the strict decoder. -/
theorem decodeByIndex_bytes {f : WireFrame} (hlen : f.wire.length ≤ 255) (hlead : Config.startByte ∉ f.lead)
    (func : Byte) (tag : Word) (store : Address) :
    decodeByIndex f.bytes func tag store = decodeFields f func tag store := by
  have h7 : f.bytes.getD (f.lead.length + 7) 0 = 0x68 := f.getD_bytes 7
  have h8 : f.bytes.getD (f.lead.length + 8) 0 = f.ctrl := f.getD_bytes 8
  have h9 : f.bytes.getD (f.lead.length + 9) 0 = f.len := f.getD_bytes 9
  have hn := Laws.FrameSize.length_bytes f
  have hstart : ¬ (f.lead.length + 7 ≥ f.bytes.length ∨ (0x68 : Byte) ≠ 0x68) := by
    rw [hn]
    simp
    omega
  have hheader : ¬ f.lead.length + 9 ≥ f.bytes.length := by omega
  have hbody : ¬ f.lead.length + 10 + f.wire.length ≥ f.bytes.length := by omega
  simp only [decodeByIndex, WireFrame.find_startByte_bytes hlead, h7, h8, h9, WireFrame.toNat_len hlen,
    f.covered_by_index, f.addr_by_index, f.data_by_index, f.checksum_by_index, if_neg hstart,
    if_neg hheader, if_neg hbody]
  -- Both sides now make the tests of R185 in one order, the right one on bytes and the left one on numbers.
  simp only [decodeFields, sumGood_iff, dispatchReply, readAddressArm, readDataArm, writeArm, baseOf_eq_iff,
    dirOf_eq_iff, toNat_baseOf, le32_eq_tagBytes, Address.bytes_inj, Address.ofBytes_take,
    f.length_data, ite_not, ne_eq]
  rfl

/-! ## The completion of a decode -/

/-- Only VBUF is touched by the completion of a decode, and only where it writes (R188, R291). -/
theorem State.complete_keepsOutside (s : State) (r : Except Status Decoded) :
    s.keepsOutside (s.complete r) 0x1500 (vbufTouched r) := by
  intro c hc
  rcases r with e | (⟨k, a⟩ | ⟨k, g, v⟩ | ⟨k, p⟩)
  · exact State.byteAt_forgetBuf s .vbuf c hc
  · exact State.byteAt_memWrite s .vbuf 0 a.bytes c hc
  · exact State.byteAt_memWrite s .vbuf 0 v c hc
  · exact State.byteAt_memWrite s .vbuf 0 p c hc

/-- A completed decode shows its result, when VBUF can hold the value (R188, R290, R291). -/
theorem State.complete_decodedAs (s : State) {r : Except Status Decoded} (h : vbufTouched r ≤ 255) :
    (s.complete r).decodedAs s.addr r := by
  rcases r with e | (⟨k, a⟩ | ⟨k, g, v⟩ | ⟨k, p⟩)
  · exact ⟨rfl, rfl, rfl, rfl⟩
  · exact ⟨rfl, rfl, rfl, rfl, rfl, State.bytesAt_of_storeList (l := a.bytes) rfl, rfl⟩
  · have hlen : (BitVec.ofNat 8 v.length).toNat = v.length := Nat.mod_eq_of_lt (Nat.lt_succ_of_le h)
    exact ⟨rfl, rfl, rfl, rfl, hlen, State.bytesAt_of_storeList rfl, rfl⟩
  · have hlen : (BitVec.ofNat 8 p.length).toNat = p.length := Nat.mod_eq_of_lt (Nat.lt_succ_of_le h)
    exact ⟨rfl, rfl, rfl, rfl, hlen, State.bytesAt_of_storeList rfl, rfl⟩

/-- What the completion of a decode outside a transaction may change (R170, R291). -/
theorem State.complete_decodeFrameOnly (s : State) (r : Except Status Decoded) :
    s.decodeFrameOnly (s.complete r) r := by
  refine ⟨?_, s.complete_keepsOutside r⟩
  rcases r with e | (_ | _ | _) <;> rfl

/-- What the completion of a decode inside a transaction may change (R205, R291). -/
theorem State.finish_transactionDecodeOnly (s : State) (r : Except Status Decoded) :
    s.transactionDecodeOnly (s.finish r) r := by
  refine ⟨?_, State.complete_keepsOutside _ r⟩
  rcases r with e | (_ | _ | _) <;> rfl

/-- The delivery of a decode's result is its completion in either context (R170, R205). -/
theorem State.deliver_decodeCompletes (s : State) {r : Except Status Decoded} (h : vbufTouched r ≤ 255) :
    s.decodeCompletes (s.deliver r) r := by
  unfold State.decodeCompletes State.deliver
  split
  · exact ⟨State.complete_decodedAs _ h, s.finish_transactionDecodeOnly r⟩
  · exact ⟨s.complete_decodedAs h, s.complete_decodeFrameOnly r⟩

/-- Settles O23: on a frame the decoder by indices is the strict decoder, and its verdict is delivered. -/
theorem frameRowIsDecoded : Obligations.FrameRowIsDecoded := by
  intro f s h
  obtain ⟨hlead, hlen⟩ : Config.startByte ∉ f.lead ∧ f.wire.length ≤ 255 := by
    simpa [Instr.wf, fitsLength] using h
  refine ⟨s.deliver (decodeFields f s.expectedFunc s.expectedTag s.addr), rfl, ?_⟩
  rw [decodeByIndex_bytes hlen hlead]
  exact s.deliver_decodeCompletes (decodeFrame_bytes hlen hlead _ _ _ ▸ vbufTouched_decodeFrame _ _ _ _)

end Sys2Proof.Machine

/-! The laws of `checksum8` (R140), the low byte of a word of `CMD` (R120), and the four checksum commands (R141 to
R144). -/

namespace Sys2Proof

/-! ## The laws of the checksum -/

theorem checksum8_cons (b : Byte) (l : List Byte) : checksum8 (b :: l) = b + checksum8 l := rfl

theorem checksum8_append (l m : List Byte) : checksum8 (l ++ m) = checksum8 l + checksum8 m := by
  induction l with
  | nil => exact (zero_add (checksum8 m)).symm
  | cons b l ih => rw [List.cons_append, checksum8_cons, checksum8_cons, ih, add_assoc]

/-- An accumulator that starts at `a` ends `a` above the checksum. -/
theorem foldl_add_eq (a : Byte) (l : List Byte) : l.foldl (fun a b => a + b) a = a + checksum8 l := by
  induction l generalizing a with
  | nil => exact (add_zero a).symm
  | cons b l ih => rw [List.foldl_cons, ih, checksum8_cons, add_assoc]

theorem checksum8_append_comm (l m : List Byte) : checksum8 (l ++ m) = checksum8 (m ++ l) := by
  rw [checksum8_append, checksum8_append, add_comm]

/-- A byte in the middle of a sequence is one summand of the checksum. -/
theorem checksum8_middle (l m : List Byte) (b : Byte) :
    checksum8 (l ++ b :: m) = checksum8 (l ++ m) + b := by
  simp only [checksum8_append, checksum8_cons]
  ring

theorem checksum8_replace (l m : List Byte) (b c : Byte) :
    checksum8 (l ++ c :: m) = checksum8 (l ++ b :: m) + (c - b) := by
  rw [checksum8_middle l m c, checksum8_middle l m b]
  ring

/-- The checksum tells two bytes at one place apart, their difference not being 0. -/
theorem checksum8_replace_ne (l m : List Byte) {b c : Byte} (h : b ≠ c) :
    checksum8 (l ++ c :: m) ≠ checksum8 (l ++ b :: m) := by
  rw [checksum8_middle l m c, checksum8_middle l m b]
  exact fun heq => h (add_left_cancel heq).symm

/-- What one byte gains another loses: the sum is the same. -/
theorem checksum8_cancelling_pair (l m n : List Byte) (b c d : Byte) :
    checksum8 (l ++ (b + d) :: m ++ (c - d) :: n) = checksum8 (l ++ b :: m ++ c :: n) := by
  simp only [checksum8_append, checksum8_cons]
  ring

/-- Settles O1, law by law; the number is `Machine.toNat_checksum8`. -/
theorem checksumIsSumModulo256 : Obligations.ChecksumIsSumModulo256 := by
  refine ⟨Machine.toNat_checksum8, fun l => ?_, fun l m => ⟨checksum8_append_comm l m, ?_⟩, checksum8_replace,
    fun l m _ _ => checksum8_replace_ne l m, checksum8_cancelling_pair⟩
  · rw [foldl_add_eq, zero_add]
  · rw [checksum8_append, BitVec.toNat_add]

/-! ## The low byte of a word of `CMD` -/

/-- The command is named by the low byte alone (R120). -/
theorem decodeCommand_congr {v w : Word} (h : v.toNat % 256 = w.toNat % 256) : decodeCommand v = decodeCommand w := by
  have hop : v.extractLsb' 0 8 = w.extractLsb' 0 8 := by
    apply BitVec.eq_of_toNat_eq
    rw [Machine.toNat_cut, Machine.toNat_cut, Nat.pow_zero, Nat.div_one, Nat.div_one]
    exact h
  rw [decodeCommand, decodeCommand, hop]

end Sys2Proof

namespace Sys2Proof.Machine

/-! ## The selected range in the spec's terms -/

/-- The selector names a buffer, or is the reserved one (R143). -/
theorem State.buffer?_eq (s : State) :
    s.op.buffer? = if s.op.bufSel = 3 then none else some s.selected.1 := by
  have hsel : ∀ x : BitVec 2, x = 0 ∨ x = 1 ∨ x = 2 ∨ x = 3 := by decide
  rcases hsel s.op.bufSel with h | h | h | h
  all_goals simp [OperandRegs.buffer?, State.selected, h]

theorem State.validLen_selected (s : State) : s.validLen s.selected.1 = s.selected.2 := by
  unfold State.selected
  split
  · rfl
  · split
    · rfl
    · simp [State.validLen, State.evValid]

/-- The selected range is refused for the reserved selector, refused outside the valid bytes, or read, in this order
(R143, R261). -/
theorem State.selectedRange_eq (s : State) :
    s.selectedRange =
      if s.op.bufSel = 3 then .error .invalidArgument
      else if s.selected.2 < s.op.start.toNat + s.op.rangeLen.toNat then .error .rangeError
      else .ok s.rangeBytes := by
  rw [State.selectedRange, s.buffer?_eq, ← s.validLen_selected]
  by_cases h : s.op.bufSel = 3
  · simp only [if_pos h]
  · simp only [if_neg h]
    rfl

/-! ## The checksum commands -/

theorem exec_csUpdateRange_of_error {s : State} {e : Status} (h : s.selectedRange = .error e) :
    exec .csUpdateRange s = .next (s.post e) := by
  simp only [exec, execCsUpdateRange, h]

theorem exec_csUpdateRange_of_ok {s : State} {l : List Byte} (h : s.selectedRange = .ok l) :
    exec .csUpdateRange s = .next (State.post { s with acc := s.acc + checksum8 l } .ok) := by
  simp only [exec, execCsUpdateRange, h]

/-- The sum of a sequence added to a byte, in natural numbers (R143). -/
theorem toNat_add_checksum8 (a : Byte) (l : List Byte) :
    (a + checksum8 l).toNat = (a.toNat + byteSum l) % 256 := by
  rw [BitVec.toNat_add, toNat_checksum8, Nat.add_mod_mod]

/-- Settles O5, along the three outcomes of the selected range. -/
theorem csUpdateRangeAddsSelectedBytes : Obligations.CsUpdateRangeAddsSelectedBytes := by
  refine ⟨fun v hv => decodeCommand_congr (w := 0x03) hv, fun s => ?_⟩
  have hrange := s.selectedRange_eq
  split_ifs at hrange ⊢ with hsel hout
  · exact ⟨_, exec_csUpdateRange_of_error hrange, rfl, fun _ => rfl, rfl, rfl⟩
  · exact ⟨_, exec_csUpdateRange_of_error hrange, rfl, fun _ => rfl, rfl, rfl⟩
  · exact ⟨_, exec_csUpdateRange_of_ok hrange, rfl, fun _ => rfl, toNat_add_checksum8 _ _, rfl⟩

/-- Settles O3: the posted state with `ACC` 0, whose other fields are those of `s`. -/
theorem csResetClearsAcc : Obligations.CsResetClearsAcc :=
  ⟨fun _ hv => decodeCommand_congr (w := 0x01) hv,
    fun s => ⟨State.post { s with acc := 0 } .ok, rfl, rfl, rfl, rfl, fun _ => rfl⟩⟩

/-- Settles O4: the addition of bytes drops the carry out of bit 7. -/
theorem csUpdateAddsByte : Obligations.CsUpdateAddsByte :=
  ⟨fun _ hv => decodeCommand_congr (w := 0x02) hv,
    fun s => ⟨State.post { s with acc := s.acc + s.op.byte } .ok, rfl, BitVec.toNat_add _ _, rfl, rfl, fun _ => rfl⟩⟩

/-- Settles O6: `RES_VAL` takes `ACC`, and a register narrower than a word reads zero-extended. -/
theorem csValueCopiesAcc : Obligations.CsValueCopiesAcc :=
  ⟨fun _ hv => decodeCommand_congr (w := 0x04) hv,
    fun s => ⟨State.post { s with res := { s.res with val := s.acc } } .ok, rfl, rfl, rfl, rfl, rfl, rfl, fun _ => rfl⟩⟩

end Sys2Proof.Machine

/-! The data-byte transform (R150 to R154) and its two commands (R152, R153). -/

namespace Sys2Proof

/-! ## The transform -/

/-- The encoder's transform undoes the decoder's (R154). -/
@[simp] theorem add33_sub33 (b : Byte) : add33 (sub33 b) = b := BitVec.sub_add_cancel b Config.xfOffset

/-- The sum of bytes drops the carry out of bit 7 (R150). -/
theorem toNat_add33 (b : Byte) : (add33 b).toNat = (b.toNat + 0x33) % 256 := BitVec.toNat_add b Config.xfOffset

/-- Subtracting 0x33 is adding its complement 0xCD (R151). -/
theorem toNat_sub33 (b : Byte) : (sub33 b).toNat = (b.toNat + 0xCD) % 256 := by
  rw [sub33_eq, BitVec.toNat_ofNat]
  exact Nat.mod_mod _ _

/-- Settles O2: the two cancellations and the two numbers. -/
theorem transformsAreInverse : Obligations.TransformsAreInverse :=
  fun b => ⟨sub33_add33 b, add33_sub33 b, toNat_add33 b, toNat_sub33 b⟩

end Sys2Proof

namespace Sys2Proof.Machine

/-! ## The transform commands -/

/-- `RES_VAL` reads its byte zero-extended. -/
theorem State.toNat_regValue_resVal (s : State) : (s.regValue .resVal).toNat = s.res.val.toNat :=
  BitVec.toNat_setWidth_of_le (by decide)

/-- Settles O7: each command posts OK over a state whose `RES_VAL` alone is new, and reads as the transformed byte. -/
theorem transformCommandResults : Obligations.TransformCommandResults := by
  refine ⟨fun v hv => decodeCommand_congr (w := 0x08) hv, fun v hv => decodeCommand_congr (w := 0x09) hv,
    fun s => ?add, fun s => ?sub⟩
  case add =>
    refine ⟨State.post { s with res := { s.res with val := add33 s.op.byte } } .ok, rfl, ?_, rfl, rfl, fun _ => rfl⟩
    exact (State.toNat_regValue_resVal _).trans (toNat_add33 s.op.byte)
  case sub =>
    refine ⟨State.post { s with res := { s.res with val := sub33 s.op.byte } } .ok, rfl, ?_, rfl, rfl, fun _ => rfl⟩
    exact (State.toNat_regValue_resVal _).trans (toNat_sub33 s.op.byte)

end Sys2Proof.Machine

/-! The encoder (R155 to R157, R161, R163) and the commands and request rows that put its frames into OBUF (R158,
R160, R162). -/

namespace Sys2Proof

/-! ## The frame -/

/-- Settles O9: the layout is `Machine.frame_eq_frameSpec`, the length `Laws.FrameSize.length_frame`. -/
theorem frameLayout : Obligations.FrameLayout :=
  fun a c d _ => ⟨Machine.frame_eq_frameSpec a c d, Laws.FrameSize.length_frame a c d⟩

/-- The frame of R155 has 16 bytes besides its data. -/
theorem length_frameSpec (a : Address) (c : Byte) (d : List Byte) :
    (Machine.frameSpec a c d).length = 16 + d.length := by
  rw [← Machine.frame_eq_frameSpec, Laws.FrameSize.length_frame]

@[simp] theorem length_tagBytes (t : Word) : (Machine.tagBytes t).length = 4 := rfl

/-! ## What the encoder builds -/

/-- A write request is built exactly for a password and an operator of four bytes and a payload that the length byte
can count (R157, R161). -/
theorem encodeWriteRequest_eq (a : Address) (func : Byte) (pw oper : List Byte) (t : Word) (p : List Byte) :
    encodeWriteRequest a func pw oper t p =
      if pw.length = 4 ∧ oper.length = 4 ∧ p.length ≤ 243 then
        some (Machine.frameSpec a func (Machine.tagBytes t ++ pw ++ oper ++ p))
      else none := by
  have hframe : frame a (func ||| 0x00) (le32 t ++ pw ++ oper ++ p)
      = Machine.frameSpec a func (Machine.tagBytes t ++ pw ++ oper ++ p) := by
    simp [Machine.frame_eq_frameSpec, Machine.le32_eq_tagBytes]
  rw [encodeWriteRequest, hframe, Config.pbufSize]
  by_cases hfour : pw.length = 4 ∧ oper.length = 4
  · by_cases hp : p.length ≤ 243
    · rw [if_neg (by omega), if_neg (by omega), if_pos (by omega)]
    · rw [if_neg (by omega), if_pos (by omega), if_neg (by omega)]
  · rw [if_pos (by omega), if_neg (by omega)]

/-- Settles O10: the lengths are those of the frame of R155, a tag having four bytes. -/
theorem encodersBuildFrames : Obligations.EncodersBuildFrames := by
  constructor
  · intro a func t
    rw [Machine.encodeReadRequest_none, Machine.encodeReadRequest_some]
    exact ⟨rfl, length_frameSpec a func [], rfl, length_frameSpec a func (Machine.tagBytes t)⟩
  · intro a func pw oper t p
    have heq := encodeWriteRequest_eq a func pw oper t p
    split_ifs with hfour hp
    · exact heq.trans (if_neg (by omega))
    · exact heq.trans (if_neg (by omega))
    · refine ⟨heq.trans (if_pos (by omega)), ?_⟩
      rw [length_frameSpec]
      simp only [List.length_append, length_tagBytes]
      omega

/-! ## What the decoder recovers -/

/-- The bytes the checksum covers, cut out of the frame (R102). -/
theorem WireFrame.take_drop_bytes (f : WireFrame) :
    (f.bytes.drop f.lead.length).take (10 + f.wire.length) = f.covered := by
  rw [WireFrame.bytes, List.append_assoc, List.drop_left, ← f.length_covered, List.take_left]

/-- The bytes 4 to `|frame| - 3` of an encoded frame sum to the byte at `|frame| - 2` (R163 (a)). -/
theorem byteSum_frame (a : Address) (c : Byte) (d : List Byte) :
    Machine.byteSum (((frame a c d).drop 4).take ((frame a c d).length - 6)) % 256
      = ((frame a c d).getD ((frame a c d).length - 2) 0).toNat := by
  have hwire : (WireFrame.build leading a c d).wire.length = d.length := List.length_map add33
  have hcovered := (WireFrame.build leading a c d).take_drop_bytes
  have hchecksum := (WireFrame.build leading a c d).checksum_by_index
  rw [hwire] at hcovered hchecksum
  rw [Laws.FrameSize.length_frame, show 16 + d.length - 6 = 10 + d.length by omega,
    show 16 + d.length - 2 = 4 + 10 + d.length by omega]
  have hsum := (Machine.sumGood_iff _).1 (WireFrame.sumGood_build leading a c d)
  rwa [← hcovered, ← hchecksum] at hsum

/-- The decoder finds an encoded frame (R163 (b)). -/
theorem parseFrame_frame (a : Address) (c : Byte) {d : List Byte} (hd : d.length ≤ 255) :
    parseFrame (frame a c d) = .ok (WireFrame.build leading a c d) :=
  parseFrame_build startByte_not_mem_leading hd a c

/-- Settles O11: what is found is the frame as it was built, with its address, control code and data. -/
theorem encodedFrameIsRecovered : Obligations.EncodedFrameIsRecovered := by
  refine ⟨fun a c d _ => byteSum_frame a c d, fun a c d hd => ?_, fun a t => ?_⟩
  · exact ⟨_, parseFrame_frame a c hd, rfl, WireFrame.sumGood_build leading a c d, rfl, rfl,
      WireFrame.data_build leading a c d⟩
  · have hlen : (le32 t).length ≤ 255 := (Laws.FrameSize.length_le32 t).trans_le (by decide)
    exact ⟨_, parseFrame_frame a 0x11 hlen,
      (WireFrame.data_build leading a 0x11 (le32 t)).trans (Machine.le32_eq_tagBytes t)⟩

end Sys2Proof

namespace Sys2Proof.Machine

/-! ## The operands of the encoder commands -/

/-- The address operand, byte by byte; `OP_ADDR_HI` holds the last two (R21, R30). -/
theorem State.address_eq_operandAddress (s : State) : s.op.address = s.operandAddress := by
  have hlo := extractByte_eq s.op.addrLo
  have hhi := extractByte_eq (s.op.addrHi.setWidth 32)
  have hb4 := (BitVec.extractLsb'_setWidth_of_le (by decide)).symm.trans (hhi 0)
  have hb5 := (BitVec.extractLsb'_setWidth_of_le (by decide)).symm.trans (hhi 1)
  exact (Address.mk.injEq ..).mpr ⟨hlo 0, hlo 1, hlo 2, hlo 3, hb4, hb5⟩

/-- The read request of the operand registers (R158). -/
theorem State.encodeReadRequest_operands (s : State) :
    encodeReadRequest s.op.address s.op.func s.op.tag?
      = frameSpec s.operandAddress s.op.func (if s.op.hasTag then tagBytes s.op.tag else []) := by
  rw [s.address_eq_operandAddress, OperandRegs.tag?]
  split
  · exact encodeReadRequest_some _ _ _
  · exact encodeReadRequest_none _ _

/-- With legal lengths `ENC_WRITE` encodes the operand registers and the first `PLEN` bytes of PBUF (R160, R162). -/
theorem State.writeRequest_of_lengthsGood {s : State} (h : s.lengthsGood) (a : Address) (func : Byte) :
    s.writeRequest a func = encodeWriteRequest a func (tagBytes s.op.pw) (tagBytes s.op.oper) s.op.tag
      (s.bytesAt 0x1400 s.op.plen.toNat) := by
  rw [State.writeRequest, if_pos (s.writeLensGood_iff.2 h), unpack_eq_tagBytes, unpack_eq_tagBytes]
  rfl

/-- With illegal lengths there is no write request (R160). -/
theorem State.writeRequest_of_not_lengthsGood {s : State} (h : ¬ s.lengthsGood) (a : Address) (func : Byte) :
    s.writeRequest a func = none :=
  if_neg fun hgood => h (s.writeLensGood_iff.1 hgood)

/-- With legal lengths the write request is the frame of R157 (R160). -/
theorem State.writeRequest_eq_frameSpec {s : State} (h : s.lengthsGood) (a : Address) (func : Byte) :
    s.writeRequest a func = some (frameSpec a func s.writeData) := by
  have ⟨_, _, hplen⟩ := h
  rw [State.writeRequest_of_lengthsGood h, encodeWriteRequest_eq, s.length_bytesAt, if_pos ⟨rfl, rfl, hplen⟩]
  rfl

/-! ## The completion of an encoder -/

/-- What an encoder leaves that built the frame, or failed (R158, R160). -/
def State.postRequest (s : State) : Option (List Byte) → State
  | some f => (s.writeObuf f).post .ok
  | none => s.obufLost.post .invalidArgument

theorem exec_encRead (s : State) :
    exec .encRead s = .next (s.postRequest (some (encodeReadRequest s.op.address s.op.func s.op.tag?))) := rfl

theorem exec_encWrite (s : State) :
    exec .encWrite s = .next (s.postRequest (s.writeRequest s.op.address s.op.func)) := by
  rw [exec, execEncWrite]
  cases s.writeRequest s.op.address s.op.func with
  | none => rfl
  | some f => rfl

theorem exec_reqReadData (a : Address) (g : Word) (s : State) :
    exec (.reqReadData a g) s = .next (s.postRequest (some (encodeReadRequest a 0x11 (some g)))) := rfl

theorem exec_reqReadDataClearAlarm (a : Address) (g : Word) (s : State) :
    exec (.reqReadDataClearAlarm a g) s = .next (s.postRequest (some (encodeReadRequest a 0x12 (some g)))) := rfl

theorem exec_reqReadAddress (a : Address) (s : State) :
    exec (.reqReadAddress a) s = .next (s.postRequest (some (encodeReadRequest a 0x13 none))) := rfl

theorem exec_reqWriteData (a : Address) (g : Word) (pw oper p : List Byte) (s : State) :
    exec (.reqWriteData a g pw oper p) s = .next (s.postRequest (encodeWriteRequest a 0x14 pw oper g p)) := by
  rw [exec, execReqWriteData]
  cases encodeWriteRequest a 0x14 pw oper g p with
  | none => rfl
  | some f => rfl

/-- A request that fits OBUF is put there, with its length (R158, R160). -/
theorem State.postRequest_encodes (s : State) {f : List Byte} (hf : f.length ≤ 271) :
    s.encodes (s.postRequest (some f)) f := by
  have hlen : (BitVec.ofNat 9 f.length).toNat = f.length := Nat.mod_eq_of_lt (by omega)
  exact ⟨State.bytesAt_of_storeList rfl, hlen, rfl, rfl, s.byteAt_memWrite .obuf 0 f⟩

/-- Every read request fits OBUF (R116). -/
theorem State.postRequest_encodeReadRequest (s : State) (a : Address) (func : Byte) (g : Option Word) :
    s.encodes (s.postRequest (some (encodeReadRequest a func g))) (encodeReadRequest a func g) :=
  s.postRequest_encodes ((length_encodeReadRequest_le a func g).trans (by decide))

/-- An encoder that failed loses OBUF alone (R160, R291). -/
theorem State.postRequest_encodeFails (s : State) : s.encodeFails (s.postRequest none) :=
  ⟨rfl, rfl, rfl, State.byteAt_forgetBuf s .obuf⟩

/-! ## The commands and the rows -/

/-- Settles O12: `ENC_READ` completes with the read request of the operand registers. -/
theorem encReadBuildsRequest : Obligations.EncReadBuildsRequest := by
  refine ⟨fun v hv => decodeCommand_congr (w := 0x10) hv, fun s => ⟨_, exec_encRead s, ?_⟩⟩
  rw [← s.encodeReadRequest_operands]
  exact s.postRequest_encodeReadRequest _ _ _

/-- Settles O13, along the test of the declared lengths. -/
theorem encWriteBuildsRequest : Obligations.EncWriteBuildsRequest := by
  refine ⟨fun v hv => decodeCommand_congr (w := 0x11) hv, fun s => ⟨_, exec_encWrite s, fun h => ?_, fun h => ?_⟩⟩
  · have hreq := State.writeRequest_eq_frameSpec h s.operandAddress s.op.func
    rw [s.address_eq_operandAddress, hreq]
    exact s.postRequest_encodes (State.length_writeRequest_le hreq)
  · rw [State.writeRequest_of_not_lengthsGood h]
    exact s.postRequest_encodeFails

/-- Settles O14: each row completes with its encoder's result. -/
theorem requestRowsBuildFrames : Obligations.RequestRowsBuildFrames := by
  intro a g s
  rw [← encodeReadRequest_some, ← encodeReadRequest_some, ← encodeReadRequest_none]
  refine ⟨⟨_, exec_reqReadData a g s, s.postRequest_encodeReadRequest _ _ _⟩,
    ⟨_, exec_reqReadDataClearAlarm a g s, s.postRequest_encodeReadRequest _ _ _⟩,
    ⟨_, exec_reqReadAddress a s, s.postRequest_encodeReadRequest _ _ _⟩,
    fun pw oper p => ⟨_, exec_reqWriteData a g pw oper p s, ?_⟩⟩
  have hreq := encodeWriteRequest_eq a 0x14 pw oper g p
  split_ifs at hreq ⊢ with h
  · rw [hreq]
    exact s.postRequest_encodes (length_encodeWriteRequest_le hreq)
  · rw [hreq]
    exact s.postRequest_encodeFails

/-- Settles O15: a command and its row complete with one encoder's result. -/
theorem encodeCommandsRunRequestRows : Obligations.EncodeCommandsRunRequestRows := by
  intro s
  rw [exec_encRead, exec_encWrite, s.address_eq_operandAddress]
  refine ⟨fun hfunc htag => ?_, fun hfunc htag => ?_, fun hfunc htag => ?_, fun hfunc hlens => ?_⟩
  · rw [exec_reqReadData, hfunc, OperandRegs.tag?, if_pos htag]
  · rw [exec_reqReadDataClearAlarm, hfunc, OperandRegs.tag?, if_pos htag]
  · rw [exec_reqReadAddress, hfunc, OperandRegs.tag?, htag]
    rfl
  · rw [exec_reqWriteData, hfunc, State.writeRequest_of_lengthsGood hlens]

end Sys2Proof.Machine

/-! The decoder of R185 by indices on every byte sequence, and `DEC_FRAME` and the reply rows in its terms (R170 to
R188). -/

namespace Sys2Proof

/-- The first start byte by index, with nothing but other bytes before it (R172). -/
theorem startByte_of_find {raw : List Byte} {s : Nat}
    (h : (List.range raw.length).find? (fun i => raw.getD i 0 == 0x68) = some s) :
    raw.getD s 0 = Config.startByte ∧ Config.startByte ∉ raw.take s := by
  obtain ⟨hstart, -, hbefore⟩ := List.find?_range_eq_some.1 h
  refine ⟨beq_iff_eq.1 hstart, fun hmem => ?_⟩
  obtain ⟨j, hj, hbyte⟩ := List.mem_iff_getElem.1 hmem
  have hjs : j < s ∧ j < raw.length := by simpa using hj
  have hother := hbefore j hjs.1
  rw [List.getElem_take] at hbyte
  rw [List.getD_eq_getElem _ _ hjs.2, hbyte] at hother
  exact Bool.false_ne_true hother

/-- A sequence from an index on: `k` bytes read by index, and the rest. -/
theorem drop_eq_map_getD_append {l : List Byte} {s k : Nat} (h : s + k ≤ l.length) :
    l.drop s = (List.range k).map (fun i => l.getD (s + i) 0) ++ l.drop (s + k) := by
  have hpre : (l.take s).length = s := List.length_take_of_le (by omega)
  have hpart : ((l.drop s).take k).length = k := List.length_take_of_le (by simp; omega)
  have hl : l.take s ++ (l.drop s).take k ++ l.drop (s + k) = l := by
    rw [← List.drop_drop, List.append_assoc, List.take_append_drop, List.take_append_drop]
  have hread := map_getD_range (l.take s) ((l.drop s).take k) (l.drop (s + k))
  rw [hl, hpre, hpart] at hread
  rw [hread, ← List.drop_drop, List.take_append_drop]

/-- The fields of a frame whose first start byte is at an index, read by index (R185). -/
def WireFrame.cut (raw : List Byte) (s : Nat) : WireFrame where
  lead := raw.take s
  addr := ⟨raw.getD (s + 1) 0, raw.getD (s + 2) 0, raw.getD (s + 3) 0, raw.getD (s + 4) 0, raw.getD (s + 5) 0,
    raw.getD (s + 6) 0⟩
  ctrl := raw.getD (s + 8) 0
  wire := (raw.drop (s + 10)).take (raw.getD (s + 9) 0).toNat
  checksum := raw.getD (s + 10 + (raw.getD (s + 9) 0).toNat) 0
  tail := raw.drop (s + 10 + (raw.getD (s + 9) 0).toNat + 1)

/-- With both start bytes in place and room for the checksum, no byte is lost in the cut (R172 to R174). -/
theorem WireFrame.bytes_cut {raw : List Byte} {s : Nat} (hstart : raw.getD s 0 = Config.startByte)
    (hsecond : raw.getD (s + 7) 0 = Config.startByte)
    (hroom : s + 10 + (raw.getD (s + 9) 0).toNat < raw.length) : (WireFrame.cut raw s).bytes = raw := by
  have hdrop : (raw.drop (s + 10)).drop (raw.getD (s + 9) 0).toNat =
      (WireFrame.cut raw s).checksum :: (WireFrame.cut raw s).tail := by
    rw [List.drop_drop, List.drop_eq_getElem_cons hroom, ← List.getD_eq_getElem _ 0 hroom]
    rfl
  obtain ⟨hdata, hcount⟩ := body_eq_of_drop hdrop
  have hlen : (WireFrame.cut raw s).len = raw.getD (s + 9) 0 := hcount
  have hheader : (List.range 10).map (fun i => raw.getD (s + i) 0) =
      Config.startByte :: (WireFrame.cut raw s).addr.bytes ++
        [Config.startByte, (WireFrame.cut raw s).ctrl, (WireFrame.cut raw s).len] :=
    calc (List.range 10).map (fun i => raw.getD (s + i) 0)
        = raw.getD s 0 :: (WireFrame.cut raw s).addr.bytes ++
            [raw.getD (s + 7) 0, (WireFrame.cut raw s).ctrl, raw.getD (s + 9) 0] := rfl
      _ = _ := by rw [hstart, hsecond, hlen]
  calc (WireFrame.cut raw s).bytes
      = raw.take s ++ ((List.range 10).map (fun i => raw.getD (s + i) 0) ++ raw.drop (s + 10)) := by
        rw [WireFrame.bytes_eq, hheader, hdata]
        rfl
    _ = raw := by rw [← drop_eq_map_getD_append (by omega), List.take_append_drop]

/-- Where R185 finds both start bytes and room for the checksum, the strict decoder finds the frame (R172 to R174). -/
theorem parseFrame_of_find {raw : List Byte} {s : Nat}
    (hfind : (List.range raw.length).find? (fun i => raw.getD i 0 == 0x68) = some s)
    (hsecond : raw.getD (s + 7) 0 = 0x68) (hroom : s + 10 + (raw.getD (s + 9) 0).toNat < raw.length) :
    parseFrame raw = .ok (WireFrame.cut raw s) := by
  obtain ⟨hstart, hlead⟩ := startByte_of_find hfind
  have hcount : (raw.getD (s + 9) 0).toNat ≤ 255 := Nat.le_of_lt_succ (raw.getD (s + 9) 0).isLt
  exact parseFrame_eq_ok_iff.2
    ⟨WireFrame.bytes_cut hstart hsecond hroom, (List.length_take_le _ _).trans hcount, hlead⟩

end Sys2Proof

namespace Sys2Proof.Machine

/-! ## The strict decoder and `DEC_FRAME` -/

/-- Without a frame the decoder of R185 stops with FramingError, as the strict decoder does (R172 to R174, R276). -/
theorem decodeByIndex_of_parseFrame_error {raw : List Byte} {e : DecodeError} (h : parseFrame raw = .error e)
    (func : Byte) (tag : Word) (store : Address) :
    decodeByIndex raw func tag store = .error .framingError := by
  cases hfind : (List.range raw.length).find? fun i => raw.getD i 0 == 0x68 with
  | none => simp only [decodeByIndex, hfind]
  | some s =>
    simp only [decodeByIndex, hfind]
    by_cases hsecond : s + 7 ≥ raw.length ∨ raw.getD (s + 7) 0 ≠ 0x68
    · rw [if_pos hsecond]
    by_cases hheader : s + 9 ≥ raw.length
    · rw [if_neg hsecond, if_pos hheader]
    by_cases hroom : s + 10 + (raw.getD (s + 9) 0).toNat ≥ raw.length
    · rw [if_neg hsecond, if_neg hheader, if_pos hroom]
    obtain ⟨-, hbyte⟩ := not_or.1 hsecond
    cases h.symm.trans (parseFrame_of_find hfind (not_not.1 hbyte) (Nat.not_le.1 hroom))

/-- Settles O19: with a frame both decoders read its fields, without one both stop. -/
theorem decodeFrameIsRuleByIndex : Obligations.DecodeFrameIsRuleByIndex := by
  intro raw func tag store
  cases h : parseFrame raw with
  | error e => rw [decodeByIndex_of_parseFrame_error h, decodeFrame, h]
  | ok f =>
    obtain ⟨rfl, hlen, hlead⟩ := parseFrame_eq_ok_iff.1 h
    rw [decodeFrame_bytes hlen hlead, decodeByIndex_bytes hlen hlead]

/-- Settles O20: the completion shows the strict decoder's verdict, which is R185's. -/
theorem decFrameDecodesIbuf : Obligations.DecFrameDecodesIbuf := by
  refine ⟨fun v hv => decodeCommand_congr (w := 0x12) hv, fun s => ⟨_, rfl, ?_⟩⟩
  rw [← decodeFrameIsRuleByIndex]
  exact ⟨s.complete_decodedAs (vbufTouched_decodeFrame _ _ _ _), s.complete_decodeFrameOnly _⟩

/-! ## The arms in the terms of the statements -/

/-- The address that the read-address arm returns is the header's (R182). -/
theorem readAddressArm_eq (a : Address) (c : Byte) (d : List Byte) :
    readAddressArm a c d =
      if d.length < 6 then .error .lengthOutOfRange
      else if a.bytes ≠ d.take 6 then .error .addressMismatchError
      else .ok (.addressReply c a) := by
  unfold readAddressArm
  split_ifs with hlen hcopy
  · rfl
  · rfl
  · have haddr : Address.ofBytes d = a := by
      rw [← Address.ofBytes_take, ← not_not.1 hcopy]
      rfl
    rw [haddr]

/-- The upper three bits of a control code as a number (R105). -/
theorem toNat_div_of_dirOf {c b : Byte} (h : dirOf c = b) : c.toNat / 32 = b.toNat / 32 := by
  have hdir := (dirOf_eq_iff c b).1 h
  omega

/-- The read-data arm on the normal direction: address, tag, length (R183). -/
theorem readDataArm_of_normal {c : Byte} (hdir : dirOf c = 0x80) (a : Address) (d : List Byte) (tag : Word)
    (store : Address) :
    readDataArm a c d tag store =
      if a ≠ store then .error .addressMismatchError
      else if d.length < 4 ∨ d.take 4 ≠ tagBytes tag then .error .functionMismatchError
      else if d.length < 6 ∨ 12 < d.length then .error .lengthOutOfRange
      else .ok (.dataReply c tag (d.drop 4)) := by
  have herror : dirOf c ≠ 0xC0 := by rw [hdir]; decide
  rw [readDataArm, if_neg herror, if_neg (not_not.2 hdir), le32_eq_tagBytes]

/-- The read-data arm on the error direction: only the address is tested before it (R183). -/
theorem readDataArm_of_error {c : Byte} (hdir : dirOf c = 0xC0) (a : Address) (d : List Byte) (tag : Word)
    (store : Address) :
    readDataArm a c d tag store =
      if a ≠ store then .error .addressMismatchError else .error .replyErrorIndicated := by
  rw [readDataArm, if_pos hdir]

/-- The read-data arm on any other direction: the tag test and the direction test have one error (R106, R183). -/
theorem readDataArm_of_other {c : Byte} (hnormal : dirOf c ≠ 0x80) (herror : dirOf c ≠ 0xC0) (a : Address)
    (d : List Byte) (tag : Word) (store : Address) :
    readDataArm a c d tag store =
      if a ≠ store then .error .addressMismatchError else .error .functionMismatchError := by
  rw [readDataArm, if_neg herror, if_pos hnormal, ite_self]

theorem writeArm_of_other {c : Byte} (hack : c ≠ 0x94) (herror : c ≠ 0xD4) (d : List Byte) :
    writeArm c d = .error .functionMismatchError :=
  if_pos ⟨hack, herror⟩

/-! ## The reply rows -/

/-- A row that delivers a result completes the decode in progress with it (R170, R205). -/
theorem decodeCompletes_of_deliver {i : Instr} {s : State} {r : Except Status Decoded}
    (hexec : exec i s = .next (s.deliver r)) (hr : vbufTouched r ≤ 255) :
    ∃ t, exec i s = .next t ∧ s.decodeCompletes t r :=
  ⟨s.deliver r, hexec, s.deliver_decodeCompletes hr⟩

/-- Settles O24: the row delivers the read-address arm's verdict, which returns the header's address. -/
theorem rspReadAddressArm : Obligations.RspReadAddressArm := by
  intro a c d s
  rw [← readAddressArm_eq]
  exact decodeCompletes_of_deliver rfl (vbufTouched_readAddressArm a c d)

/-- Settles O25: the three rows deliver one arm's verdict, each on its own direction. -/
theorem rspReadDataArm : Obligations.RspReadDataArm := by
  intro a d s
  refine ⟨?normal, ?error, fun c h4 h6 => ?other⟩
  case normal =>
    rw [← readDataArm_of_normal (c := 0x91) rfl]
    exact decodeCompletes_of_deliver rfl (vbufTouched_readDataArm a s.addr 0x91 d s.expectedTag)
  case error =>
    rw [← readDataArm_of_error (c := 0xD1) rfl a d s.expectedTag]
    exact decodeCompletes_of_deliver rfl (vbufTouched_readDataArm a s.addr 0xD1 d s.expectedTag)
  case other =>
    have hnormal : dirOf c ≠ 0x80 := fun h => h4 (toNat_div_of_dirOf h)
    have herror : dirOf c ≠ 0xC0 := fun h => h6 (toNat_div_of_dirOf h)
    rw [← readDataArm_of_other hnormal herror a d s.expectedTag]
    exact decodeCompletes_of_deliver rfl (vbufTouched_readDataArm a s.addr c d s.expectedTag)

/-- Settles O26: the rows deliver the write arm's verdict; 255 data bytes fit VBUF. -/
theorem rspWriteArm : Obligations.RspWriteArm := by
  intro a d s hd
  refine ⟨decodeCompletes_of_deliver rfl hd, decodeCompletes_of_deliver rfl hd, fun c hack herror => ?_⟩
  rw [← writeArm_of_other hack herror d]
  exact decodeCompletes_of_deliver rfl (vbufTouched_writeArm c hd)

/-- Settles O27: the row delivers the error, whatever its fields. -/
theorem rspUnknownIsUnknownFunction : Obligations.RspUnknownIsUnknownFunction :=
  fun _ _ _ _ => decodeCompletes_of_deliver rfl le_rfl

/-! ## The commands and the rows -/

/-- The dispatch by class, when the class is the expected one or none of the three (R178 to R181). -/
theorem dispatchReply_of_class {c func : Byte}
    (h : baseOf c = baseOf func ∨ (baseOf c ≠ 0x11 ∧ baseOf c ≠ 0x13 ∧ baseOf c ≠ 0x14)) (a : Address)
    (d : List Byte) (tag : Word) (store : Address) :
    dispatchReply a c d func tag store =
      if baseOf c = 0x13 then readAddressArm a c d
      else if baseOf c = 0x11 then readDataArm a c d tag store
      else if baseOf c = 0x14 then writeArm c d
      else .error .unknownFunction := by
  by_cases hnone : baseOf c ≠ 0x11 ∧ baseOf c ≠ 0x13 ∧ baseOf c ≠ 0x14
  · obtain ⟨h11, h13, h14⟩ := hnone
    rw [dispatchReply, if_pos ⟨h11, h13, h14⟩, if_neg h13, if_neg h11, if_neg h14]
  · rw [dispatchReply, if_neg hnone, if_neg (not_not.2 (h.resolve_right hnone))]
    split_ifs with h13 h11 h14
    · rfl
    · rfl
    · rfl
    · exact absurd ⟨h11, h13, h14⟩ hnone

/-- The row of a reply's class delivers the verdict of the dispatch, when the class is the expected one or none of
the three (R178 to R184). -/
theorem exec_replyOf {c : Byte} {s : State}
    (h : baseOf c = baseOf s.expectedFunc ∨ (baseOf c ≠ 0x11 ∧ baseOf c ≠ 0x13 ∧ baseOf c ≠ 0x14))
    (a : Address) (d : List Byte) :
    exec (replyOf a c d) s =
      .next (s.deliver (dispatchReply a c d s.expectedFunc s.expectedTag s.addr)) := by
  rw [dispatchReply_of_class h]
  unfold replyOf
  split_ifs with h13 h11 h91 hD1 h14 h94 hD4
  · rfl
  · rw [h91]
    rfl
  · rw [hD1]
    rfl
  · rfl
  · rw [h94]
    rfl
  · rw [hD4]
    rfl
  · rfl
  · rfl

/-- Outside a transaction a result is delivered without the flush (R170). -/
theorem State.deliver_of_not_pending {s : State} (h : s.pend.valid = false) (r : Except Status Decoded) :
    s.deliver r = s.complete r := by
  simp [State.deliver, h]

/-- Outside a transaction the expectations are those of the operand registers (R170). -/
theorem State.expected_of_not_pending {s : State} (h : s.pend.valid = false) :
    s.expectedFunc = s.op.func ∧ s.expectedTag = s.op.tag := by
  simp [State.expectedFunc, State.expectedTag, h]

/-- Where the frame is found, the strict decoder is the decoder on its fields (R175, R177). -/
theorem decodeFrame_of_parseFrame {raw : List Byte} {f : WireFrame} (h : parseFrame raw = .ok f) (func : Byte)
    (tag : Word) (store : Address) : decodeFrame raw func tag store = decodeFields f func tag store := by
  rw [decodeFrame, h]

/-- Settles O22: outside a transaction the two completions are one, and the row of the class delivers the verdict on
the fields. -/
theorem decodeRunsReplyRows : Obligations.DecodeRunsReplyRows := by
  refine ⟨fun s f hpend hf => ?_, fun s f hsum hclass => ?_⟩
  · obtain ⟨hfunc, htag⟩ := State.expected_of_not_pending hpend
    have hraw : parseFrame s.rawInput = .ok f := hf
    calc exec .decFrame s
        = .next (s.complete (decodeFrame s.rawInput s.op.func s.op.tag s.addr)) := rfl
      _ = .next (s.deliver (decodeFields f s.expectedFunc s.expectedTag s.addr)) := by
        rw [decodeFrame_of_parseFrame hraw, State.deliver_of_not_pending hpend, hfunc, htag]
  · have hclass' : baseOf f.ctrl = baseOf s.expectedFunc ∨
        (baseOf f.ctrl ≠ 0x11 ∧ baseOf f.ctrl ≠ 0x13 ∧ baseOf f.ctrl ≠ 0x14) := by
      simp only [ne_eq, baseOf_eq_iff, toNat_baseOf]
      exact hclass
    calc exec (.frame f) s
        = .next (s.deliver (decodeFields f s.expectedFunc s.expectedTag s.addr)) := rfl
      _ = exec (replyOf f.addr f.ctrl f.data) s := by
        rw [exec_replyOf hclass', decodeFields, if_pos ((sumGood_iff f).2 hsum)]

end Sys2Proof.Machine

/-! The transaction (R195 to R210): the end of a transaction and the poll in the terms of the statements, the start step
of the three `TX_*` commands, the tick in `T_WAIT`, and the run of a transaction that hears nothing. -/

namespace Sys2Proof.Machine

/-! ## The end of a transaction and the poll -/

/-- The end of a transaction, whatever became of `RXQ`, `IBUF_LEN` and the first `n` bytes of IBUF before it (R205). -/
theorem State.finish_endsTransaction (s : State) {r : Except Status Decoded} (hr : vbufTouched r ≤ 255)
    {m : Memory} {n : Nat} (hm : s.keepsOutside { s with mem := m } 0x1000 n) (q : List Byte) (len : BitVec 10) :
    s.endsTransaction (State.finish { s with mem := m, rxq := q, ibufLen := len } r) n r := by
  refine ⟨State.complete_decodedAs _ hr, ?_, fun c hibuf hvbuf => ?_⟩
  · rcases r with e | (_ | _ | _) <;> rfl
  · exact (State.complete_keepsOutside _ r c hvbuf).trans (hm c hibuf)

/-- The budget is spent and nothing has come: `IBUF_LEN` is 0 and IBUF is lost (R202, R291). -/
theorem State.finishTimeout_endsTransaction (s : State) :
    s.finishTimeout.ibufLen = 0 ∧ s.endsTransaction s.finishTimeout 512 (.error .timeoutError) :=
  ⟨State.finish_ibufLen _ _, s.finish_endsTransaction le_rfl (State.byteAt_forgetBuf s .ibuf) s.rxq 0⟩

/-- The read step puts the oldest bytes into IBUF, at most 512, and ends with R185's verdict on them (R203 to R205). -/
theorem State.finishRead_endsTransaction {s t : State} (h : s.finishRead = .ok t) :
    t.ibufLen.toNat = min s.rxq.length 512 ∧
    t.bytesAt 0x1000 (min s.rxq.length 512) = s.rxq.take 512 ∧
    s.endsTransaction t (min s.rxq.length 512)
      (decodeByIndex (s.rxq.take 512) s.pend.func s.pend.tag s.addr) := by
  have htake : s.rxq.take (min s.rxq.length 512) = s.rxq.take 512 := by
    rw [Nat.min_comm, ← List.take_eq_take_min]
  have hlen : (s.rxq.take 512).length = min s.rxq.length 512 := by rw [List.length_take, Nat.min_comm]
  rw [State.finishRead_eq, htake] at h
  obtain rfl := Except.ok.inj h
  rw [← decodeFrameIsRuleByIndex, ← hlen]
  refine ⟨?_, ?_, ?_⟩
  · simp only [State.finish_ibufLen, BitVec.toNat_ofNat]
    omega
  · refine Eq.trans (State.bytesAt_congr fun c _ hc => State.complete_keepsOutside _ _ c ?_)
      (State.bytesAt_of_storeList rfl)
    omega
  · exact s.finish_endsTransaction (vbufTouched_decodeFrame _ _ _ _)
      (s.byteAt_memWrite .ibuf 0 (s.rxq.take 512)) _ _

/-- Availability tested against a reply length is the queue's length tested against it: the length is one byte (R77,
R200). -/
theorem State.replyLen_le_rxAvail (s : State) (o : TxOp) : s.replyLen o ≤ s.rxAvail ↔ s.replyLen o ≤ s.rxq.length := by
  refine State.le_rxAvail ?_
  cases o
  all_goals
    dsimp only [State.replyLen]
    omega

theorem State.expectedLen_eq_replyLen (s : State) : s.expectedLen = s.replyLen s.tx.op := by
  unfold State.expectedLen State.replyLen
  cases s.tx.op <;> rfl

/-- A poll is the poll of the statements, for the operation and the elapsed time of the transaction (R200 to R206). -/
theorem State.poll_polls {s t : State} (h : s.poll = .ok t) : s.polls t s.tx.op s.tx.elapsed.toNat := by
  have hcases := s.poll_cases
  simp only [s.expectedLen_eq_replyLen, ← Nat.not_le, s.replyLen_le_rxAvail, h] at hcases
  unfold State.polls
  dsimp only
  rcases hcases with ⟨henough, e⟩ | ⟨-, hspent, hsome, e⟩ | ⟨hfew, hspent, hnone, e⟩ | ⟨hfew, hbudget, e⟩
  · rw [if_pos (.inl henough)]
    exact State.finishRead_endsTransaction e.symm
  · rw [if_pos (.inr ⟨hspent, List.length_pos_iff.2 hsome⟩)]
    exact State.finishRead_endsTransaction e.symm
  · obtain rfl := Except.ok.inj e
    rw [if_neg (by simpa [hnone] using hfew), if_pos hspent]
    exact s.finishTimeout_endsTransaction
  · obtain rfl := Except.ok.inj e
    rw [if_neg (by simp [hfew, hbudget]), if_neg hbudget, BitVec.ofNat_toNat, BitVec.setWidth_eq]
    exact ⟨rfl, fun _ => rfl⟩

/-- A poll leaves the scanner alone (R200). -/
theorem State.polls_sc {s t : State} {o : TxOp} {e : Nat} (h : s.polls t o e) : t.sc = s.sc := by
  unfold State.polls at h
  dsimp only at h
  split_ifs at h
  · obtain ⟨-, -, -, hkeep, -⟩ := h
    rw [hkeep]
  · obtain ⟨-, -, hkeep, -⟩ := h
    rw [hkeep]
  · obtain ⟨hkeep, -⟩ := h
    rw [hkeep]

/-! ## The commands -/

/-- The state that the start step polls: the request in OBUF and on the transport, `PEND`, and no time elapsed (R198,
R199). -/
def State.requestSent (s : State) (o : TxOp) (func : Byte) (tag : Word) (f : List Byte) : State :=
  { (s.writeObuf f).txWrite f with pend := ⟨func, tag, true⟩, tx := { s.tx with op := o, elapsed := 0 } }

theorem State.startTx_eq (s : State) (o : TxOp) (func : Byte) (tag : Word) (f : List Byte) :
    s.startTx o func tag f = (s.requestSent o func tag f).poll := rfl

/-- The start step with a request that fits OBUF is the start of the statements (R198, R199). -/
theorem State.startTx_startsTransaction {s t : State} {o : TxOp} {func : Byte} {tag : Word} {f : List Byte}
    (hf : f.length ≤ 271) (h : s.startTx o func tag f = .ok t) : s.startsTransaction t o func tag f := by
  have hlen : (BitVec.ofNat 9 f.length).toNat = f.length := Nat.mod_eq_of_lt (by omega)
  rw [State.startTx_eq] at h
  exact ⟨s.requestSent o func tag f, State.bytesAt_of_storeList rfl, hlen, rfl, s.byteAt_memWrite .obuf 0 f,
    State.poll_polls h⟩

/-- A command that starts a transaction answers what the start step makes of the state (R78, R199). -/
theorem startsTransaction_of_exec {i : Instr} {s : State} {o : TxOp} {func : Byte} {tag : Word} {f : List Byte}
    (hexec : exec i s = outcome (s.startTx o func tag f)) (hf : f.length ≤ 271) :
    ∃ t, exec i s = .next t ∧ s.startsTransaction t o func tag f := by
  obtain ⟨t, h⟩ := s.startTx_ok o func tag f
  exact ⟨t, hexec.trans (congrArg outcome h), State.startTx_startsTransaction hf h⟩

/-- The three commands while the scanner runs (R196). -/
theorem exec_transaction_of_scanActive {s : State} (h : s.scanActive = true) {i : Instr}
    (hi : i = .txReadAddress ∨ i = .txReadData ∨ i = .txWriteData) : exec i s = .next (s.post .busy) := by
  rcases hi with rfl | rfl | rfl
  · exact if_pos h
  · exact if_pos h
  · exact if_pos h

/-- With the scanner off `TX_READ_ADDRESS` starts a transaction (R207). -/
theorem exec_txReadAddress_of_off {s : State} (h : s.sc.scs = .off) :
    exec .txReadAddress s = outcome (s.startTx .readAddress 0x13 0 (frameSpec s.addr 0x13 [])) := by
  rw [exec, execTxReadAddress, State.scanActive_eq_false_iff.2 h, encodeReadRequest_none]
  rfl

/-- With the scanner off `TX_READ_DATA` starts a transaction (R208). -/
theorem exec_txReadData_of_off {s : State} (h : s.sc.scs = .off) :
    exec .txReadData s =
      outcome (s.startTx .readData 0x11 s.op.tag (frameSpec s.addr 0x11 (tagBytes s.op.tag))) := by
  rw [exec, execTxReadData, State.scanActive_eq_false_iff.2 h, encodeReadRequest_some]
  rfl

/-- With the scanner off `TX_WRITE_DATA` starts a transaction when its request can be built (R209). -/
theorem exec_txWriteData_of_some {s : State} (h : s.sc.scs = .off) {f : List Byte}
    (hf : s.writeRequest s.addr 0x14 = some f) :
    exec .txWriteData s = outcome (s.startTx .writeData 0x14 s.op.tag f) := by
  rw [exec, execTxWriteData, State.scanActive_eq_false_iff.2 h, hf]
  rfl

/-- With the scanner off `TX_WRITE_DATA` fails when its request cannot be built (R210). -/
theorem exec_txWriteData_of_none {s : State} (h : s.sc.scs = .off) (hf : s.writeRequest s.addr 0x14 = none) :
    exec .txWriteData s = .next (s.obufLost.resultLost.rxClear.post .invalidArgument) := by
  rw [exec, execTxWriteData, State.scanActive_eq_false_iff.2 h, hf]
  rfl

/-- Settles O31: each command tests the scanner first. -/
theorem transactionRefusedWhileScanning : Obligations.TransactionRefusedWhileScanning := by
  intro s h
  have hactive : s.scanActive = true := decide_eq_true h
  have hposts : s.postsOnly (s.post .busy) .busy := ⟨rfl, fun _ => rfl⟩
  exact ⟨⟨_, exec_transaction_of_scanActive hactive (.inl rfl), hposts⟩,
    ⟨_, exec_transaction_of_scanActive hactive (.inr (.inl rfl)), hposts⟩,
    ⟨_, exec_transaction_of_scanActive hactive (.inr (.inr rfl)), hposts⟩⟩

/-- Settles O32: the start step with the request of `ADDR`. -/
theorem txReadAddressStarts : Obligations.TxReadAddressStarts := by
  refine ⟨fun v hv => decodeCommand_congr (w := 0x20) hv, fun s hoff => ?_⟩
  exact startsTransaction_of_exec (exec_txReadAddress_of_off hoff) ((length_frameSpec _ _ _).trans_le (by decide))

/-- Settles O33: the start step with the request of `ADDR` and `OP_TAG`. -/
theorem txReadDataStarts : Obligations.TxReadDataStarts := by
  refine ⟨fun v hv => decodeCommand_congr (w := 0x21) hv, fun s hoff => ?_⟩
  refine startsTransaction_of_exec (exec_txReadData_of_off hoff) ?_
  rw [length_frameSpec, length_tagBytes]
  decide

/-- Settles O34: with legal lengths the request is built and fits OBUF. -/
theorem txWriteDataStarts : Obligations.TxWriteDataStarts := by
  refine ⟨fun v hv => decodeCommand_congr (w := 0x22) hv, fun s hoff hlens => ?_⟩
  have hreq := State.writeRequest_eq_frameSpec hlens s.addr 0x14
  exact startsTransaction_of_exec (exec_txWriteData_of_some hoff hreq) (State.length_writeRequest_le hreq)

/-- What a request that cannot be built leaves: the flush, `OBUF_LEN` 0, and OBUF, VBUF and the results lost (R210). -/
theorem State.requestRefused_eq (s : State) :
    s.obufLost.resultLost.rxClear.post .invalidArgument =
      { s with
        obufLen := 0, rxq := [], mem := (s.obufLost.forgetBuf .vbuf).mem
        res := { s.resultLost.res with status := .invalidArgument }
        flags := { s.flags with rspValid := true } } := by
  simp only [State.post, State.rxClear, State.resultLost, State.obufLost, State.forgetBuf]

/-- Settles O35: OBUF and VBUF are lost, the one after the other. -/
theorem txWriteDataInvalidArgument : Obligations.TxWriteDataInvalidArgument := by
  intro s hoff hlens
  have hexec := exec_txWriteData_of_none hoff (State.writeRequest_of_not_lengthsGood hlens s.addr 0x14)
  rw [s.requestRefused_eq] at hexec
  refine ⟨_, hexec, rfl, rfl, rfl, rfl, rfl, fun c hobuf hvbuf => ?_⟩
  calc (s.obufLost.forgetBuf .vbuf).byteAt c
      = s.obufLost.byteAt c := State.byteAt_forgetBuf _ .vbuf c hvbuf
    _ = s.byteAt c := State.byteAt_forgetBuf s .obuf c hobuf

/-! ## The tick in `T_WAIT` -/

/-- The tick that ends a count polls one increment later (R201). -/
theorem State.txTick_of_due {s : State} (hwait : s.tx.txs = .wait) (hcnt : s.tx.cnt = 1) :
    s.txTick = State.poll
      { s with tx := { s.tx with cnt := 0, elapsed := s.tx.elapsed + s.cfg.pollMs.setWidth 17 } } := by
  simp [State.txTick, hwait, hcnt]

/-- Any other tick counts down (R201). -/
theorem State.txTick_of_not_due {s : State} (hwait : s.tx.txs = .wait) (hcnt : s.tx.cnt ≠ 1) :
    s.txTick = .ok { s with tx := { s.tx with cnt := s.tx.cnt - 1 } } := by
  have hne : s.tx.cnt - 1 ≠ 0 := fun h => hcnt (sub_eq_zero.1 h)
  rw [State.txTick, if_pos hwait, if_neg hne]

/-- With the scanner off a tick is the transaction machine's (R227, R300). -/
theorem tick_of_txTick {s t : State} (h : s.txTick = .ok t) (hoff : t.sc.scs = .off) : tick s = .next t := by
  have hscan : t.scanTick = .ok t := by simp only [State.scanTick, hoff]
  simp only [tick, h, hscan, outcome]

/-- Settles O36, along the test of the counter; within the budget the elapsed time has room for one more increment. -/
theorem tickInWait : Obligations.TickInWait := by
  intro s hwait hoff hbudget
  by_cases hcnt : s.tx.cnt = 1
  · obtain ⟨t, ht⟩ := s.txTick_ok
    have helapsed : (s.tx.elapsed + s.cfg.pollMs.setWidth 17).toNat = s.tx.elapsed.toNat + s.cfg.pollMs.toNat := by
      bv_omega
    have hpolls : s.polls t s.tx.op (s.tx.elapsed.toNat + s.cfg.pollMs.toNat) :=
      helapsed ▸ State.poll_polls ((State.txTick_of_due hwait hcnt).symm.trans ht)
    refine ⟨t, tick_of_txTick ht (by rw [State.polls_sc hpolls, hoff]), ?_⟩
    rwa [if_pos hcnt]
  · refine ⟨_, tick_of_txTick (State.txTick_of_not_due hwait hcnt) hoff, ?_⟩
    rw [if_neg hcnt]
    exact ⟨rfl, fun _ => rfl⟩

/-! ## A transaction that hears nothing -/

/-- The time of the last poll: the first multiple of the increment that reaches the budget (R202). -/
def lastPoll (budget p : Nat) : Nat := (budget + p - 1) / p * p

theorem dvd_lastPoll (budget p : Nat) : p ∣ lastPoll budget p := Nat.dvd_mul_left _ _

/-- A multiple of the increment reaches the last poll exactly when it reaches the budget (R202). -/
theorem lastPoll_le_iff {p : Nat} (hp : p ≠ 0) {e : Nat} (he : p ∣ e) (budget : Nat) :
    lastPoll budget p ≤ e ↔ budget ≤ e := by
  obtain ⟨c, rfl⟩ := he
  have hpos : 0 < p := Nat.pos_of_ne_zero hp
  have hceil : (budget + p - 1) / p ≤ c ↔ budget ≤ p * c := by
    rw [← Nat.ceilDiv_eq_add_pred_div]
    exact ceilDiv_le_iff_le_mul hpos
  rw [lastPoll, Nat.mul_comm, Nat.mul_le_mul_left_iff hpos, hceil]

/-- Below the budget there is room for one more increment before the last poll (R202). -/
theorem add_le_lastPoll {p : Nat} (hp : p ≠ 0) {e : Nat} (he : p ∣ e) {budget : Nat} (h : e < budget) :
    e + p ≤ lastPoll budget p := by
  have hlt : e < lastPoll budget p := lt_of_not_ge fun hle => h.not_ge ((lastPoll_le_iff hp he budget).1 hle)
  have hdiff : p ∣ lastPoll budget p - e := Nat.dvd_sub (dvd_lastPoll budget p) he
  have hroom := Nat.le_of_dvd (Nat.sub_pos_of_lt hlt) hdiff
  omega

/-- What a transaction that hears nothing keeps: no scanner, no byte, no response, legal timing registers. -/
structure State.Silent (s : State) : Prop where
  off : s.sc.scs = .off
  empty : s.rxq = []
  response : s.flags.rspValid = false
  replies : ∀ o, s.replyLen o ≠ 0
  increment : s.cfg.pollMs.toNat ≠ 0

/-- A transaction that hears nothing is in flight, and its last poll is `m` ticks away: the ticks of its counter,
and the increments that remain after them. -/
structure State.WaitsOut (s : State) (m : Nat) : Prop extends s.Silent where
  wait : s.tx.txs = .wait
  count : s.tx.cnt.toNat ≠ 0
  multiple : s.cfg.pollMs.toNat ∣ s.tx.elapsed.toNat
  budget : s.tx.elapsed.toNat < s.cfg.timeoutMs.toNat
  left : s.tx.elapsed.toNat + s.cfg.pollMs.toNat + m
    = lastPoll s.cfg.timeoutMs.toNat s.cfg.pollMs.toNat + s.tx.cnt.toNat

/-- `t` has timed out: the completion with TimeoutError and nothing read, the address store kept (R202, R291). -/
def State.timedOut (t : State) (store : Address) (rest : List Move) : Prop :=
  t.res.status = .timeoutError ∧ t.flags.rspValid = true ∧ t.tx.txs = .idle ∧ t.pend.valid = false ∧ t.rxq = [] ∧
    t.ibufLen = 0 ∧ t.res.len = 0 ∧ t.addr = store ∧ t.moves = rest

/-- What a step leaves of a transaction that hears nothing, when its last poll is `m` ticks away: that poll has timed
out, or the wait goes on with the old results. -/
def State.staysSilent (s t : State) (m : Nat) : Prop :=
  (m = 0 ∧ t.timedOut s.addr s.moves) ∨
    (t.WaitsOut m ∧ t.res = s.res ∧ t.addr = s.addr ∧ t.moves = s.moves)

/-- A transaction ended by TimeoutError with `IBUF_LEN` 0 has timed out. -/
theorem State.endsTransaction.timedOut {s t : State} {n : Nat} (hibuf : t.ibufLen = 0)
    (h : s.endsTransaction t n (.error .timeoutError)) : t.timedOut s.addr s.moves := by
  obtain ⟨⟨hrsp, hstatus, hlen, haddr⟩, hkeep, -⟩ := h
  exact ⟨hstatus, hrsp, congrArg (·.tx.txs) hkeep, congrArg (·.pend.valid) hkeep, congrArg (·.rxq) hkeep, hibuf, hlen,
    haddr, congrArg (·.moves) hkeep⟩

theorem State.WaitsOut.takeMove {s : State} {m : Nat} (h : s.WaitsOut m) (rest : List Move) :
    (s.takeMove rest).WaitsOut m := { h with }

/-- The last poll is still to come. -/
theorem State.WaitsOut.ne_zero {s : State} {m : Nat} (h : s.WaitsOut m) : m ≠ 0 := by
  have hroom := add_le_lastPoll h.increment h.multiple h.budget
  have hcount := h.count
  have hleft := h.left
  omega

/-- A poll that hears nothing, `m` ticks before the last one, times out or waits on (R200, R202). -/
theorem State.Silent.polls {s t : State} (h : s.Silent) {o : TxOp} {e m : Nat} (hpolls : s.polls t o e)
    (he : s.cfg.pollMs.toNat ∣ e) (hm : e + m = lastPoll s.cfg.timeoutMs.toNat s.cfg.pollMs.toNat) :
    s.staysSilent t m := by
  have hlast := lastPoll_le_iff h.increment he s.cfg.timeoutMs.toNat
  have hnone : ¬ (s.replyLen o ≤ 0 ∨ s.cfg.timeoutMs.toNat ≤ e ∧ 0 < 0) := by
    simpa using h.replies o
  simp only [State.polls, h.empty, List.length_nil, if_neg hnone] at hpolls
  split_ifs at hpolls with hspent
  · obtain ⟨hibuf, hend⟩ := hpolls
    exact .inl ⟨by omega, hend.timedOut hibuf⟩
  · obtain ⟨rfl, -⟩ := hpolls
    have helapsed : (BitVec.ofNat 17 e).toNat = e := Nat.mod_eq_of_lt (by omega)
    refine .inr ⟨?_, rfl, rfl, rfl⟩
    exact
      { h with
        empty := rfl
        wait := rfl
        count := h.increment
        multiple := by simpa only [helapsed] using he
        budget := by simpa only [helapsed] using Nat.lt_of_not_le hspent
        left := by simp only [helapsed]; omega }

/-- A tick of a transaction that hears nothing (R201, R202). -/
theorem State.WaitsOut.tick {s : State} {m : Nat} (h : s.WaitsOut (m + 1)) :
    ∃ t, tick s = .next t ∧ s.staysSilent t m := by
  obtain ⟨t, ht, hcases⟩ := tickInWait s h.wait h.off h.budget
  refine ⟨t, ht, ?_⟩
  have hleft := h.left
  split_ifs at hcases with hcnt
  · refine h.toSilent.polls hcases (Nat.dvd_add h.multiple dvd_rfl) ?_
    have hone : s.tx.cnt.toNat = 1 := congrArg BitVec.toNat hcnt
    omega
  · obtain ⟨rfl, -⟩ := hcases
    have hcount := h.count
    have hne : s.tx.cnt.toNat ≠ 1 := fun h1 => hcnt (BitVec.eq_of_toNat_eq h1)
    have hminus : (s.tx.cnt - 1).toNat = s.tx.cnt.toNat - 1 := by bv_omega
    refine .inr ⟨?_, rfl, rfl, rfl⟩
    exact
      { h with
        count := by simp only [hminus]; omega
        left := by simp only [hminus]; omega }

theorem step_of_moves {s : State} {m : Move} {rest : List Move} (h : s.moves = m :: rest) :
    step s = runMove m (s.takeMove rest) := by
  rw [step, nextMove, h]

/-- A run is its first step and the run from there. -/
theorem run_succ {s t : State} (h : step s = .next t) (n : Nat) :
    Host.Core.run core (n + 1) s = Host.Core.run core n t := by
  have hcore : core.step s = .next t := h
  simp only [Host.Core.run, hcore]

/-- The run of a transaction that hears nothing: it waits before the last poll and times out at it (R202). -/
theorem State.staysSilent.run {s t : State} {m : Nat} {rest : List Move} (h : s.staysSilent t m)
    (hmoves : s.moves = List.replicate m .tick ++ rest) :
    (∃ u : State, Host.Core.run core m t = .next u ∧ u.timedOut s.addr rest) ∧
    ∀ j, j < m → ∃ u : State, Host.Core.run core j t = .next u ∧ u.tx.txs = .wait ∧ u.flags.rspValid = false ∧
      u.res = s.res := by
  induction m generalizing s t with
  | zero =>
    obtain ⟨-, hout⟩ := h.resolve_right fun hwaits => hwaits.1.ne_zero rfl
    rw [hmoves] at hout
    exact ⟨⟨t, rfl, hout⟩, fun j hj => absurd hj (Nat.not_lt_zero j)⟩
  | succ m ih =>
    obtain ⟨hwaits, hres, haddr, hkeep⟩ := h.resolve_left fun hout => Nat.succ_ne_zero m hout.1
    obtain ⟨u, htick, hsilent⟩ := (hwaits.takeMove (List.replicate m .tick ++ rest)).tick
    obtain ⟨hend, hbefore⟩ := ih hsilent rfl
    rw [State.takeMove_addr, haddr] at hend
    rw [State.takeMove_res, hres] at hbefore
    have hrun := run_succ ((step_of_moves (hkeep.trans hmoves)).trans htick)
    refine ⟨by rwa [hrun], fun j hj => ?_⟩
    cases j with
    | zero => exact ⟨t, rfl, hwaits.wait, hwaits.response, hres⟩
    | succ j =>
      rw [hrun]
      exact hbefore j (Nat.lt_of_succ_lt_succ hj)

/-- The start step of a transaction that hears nothing, its first poll being at time 0 (R199, R202). -/
theorem State.Silent.startsTransaction {s t : State} (hs : s.Silent) {o : TxOp} {func : Byte} {tag : Word}
    {f : List Byte} (h : s.startsTransaction t o func tag f) :
    s.staysSilent t (lastPoll s.cfg.timeoutMs.toNat s.cfg.pollMs.toNat) := by
  obtain ⟨u, -, -, hu, -, hpolls⟩ := h
  have hcfg : u.cfg = s.cfg := by rw [hu]
  have hsilent : u.Silent := by rw [hu]; exact { hs with }
  have hstays := hsilent.polls hpolls (Nat.dvd_zero _) (Nat.zero_add _)
  rw [hcfg] at hstays
  rw [hu] at hstays
  exact hstays

/-- Each of the three commands starts a transaction from a state whose scanner is off (R207 to R209). -/
theorem exec_startsTransaction {s : State} (hoff : s.sc.scs = .off) {v : Word}
    (hv : v.toNat % 256 = 0x20 ∨ v.toNat % 256 = 0x21 ∨ (v.toNat % 256 = 0x22 ∧ s.lengthsGood)) :
    ∃ o func tag f t, exec (decodeCommand v) s = .next t ∧ s.startsTransaction t o func tag f := by
  rcases hv with hv | hv | ⟨hv, hlens⟩
  · rw [txReadAddressStarts.1 v hv]
    exact ⟨_, _, _, _, txReadAddressStarts.2 s hoff⟩
  · rw [txReadDataStarts.1 v hv]
    exact ⟨_, _, _, _, txReadDataStarts.2 s hoff⟩
  · rw [txWriteDataStarts.1 v hv]
    exact ⟨_, _, _, _, txWriteDataStarts.2 s hoff hlens⟩

/-- The state in which an accepted command runs: its move is taken and `RSP_VALID` is clear (R28). -/
def State.accepted (s : State) (rest : List Move) : State :=
  { s with moves := rest, free := s.free + 1, flags := { s.flags with rspValid := false } }

/-- With nothing in `RXQ` and legal timing registers an accepted transaction may hear nothing (R28, R31). -/
theorem State.silent_accepted {s : State} (hoff : s.sc.scs = .off) (hempty : s.rxq = []) (hpoll : s.cfg.pollMs ≠ 0)
    (haddr : s.cfg.expRdAddr ≠ 0) (hdata : s.cfg.expRdData ≠ 0) (hwrite : s.cfg.expWrite ≠ 0) (rest : List Move) :
    (s.accepted rest).Silent := by
  have hne {w : Nat} {x : BitVec w} (h : x ≠ 0#w) : x.toNat ≠ 0 := fun h0 => h (BitVec.eq_of_toNat_eq h0)
  refine ⟨hoff, hempty, rfl, fun o => ?_, hne hpoll⟩
  cases o with
  | readAddress => exact hne haddr
  | readData => exact hne hdata
  | writeData => exact hne hwrite

/-- Settles O37: the start step polls at time 0, and the run from there waits for the last poll. -/
theorem timeoutAtExactTick : Obligations.TimeoutAtExactTick := by
  intro s v rest hidle hoff hempty hpoll haddr hdata hwrite hv p k hmoves
  have hsilent := State.silent_accepted hoff hempty hpoll haddr hdata hwrite (List.replicate k .tick ++ rest)
  obtain ⟨o, func, tag, f, t, hexec, hstarts⟩ := exec_startsTransaction hsilent.off hv
  have hstep : step s = .next t := ((stepRunsDecodedCommand s v _ hmoves).1 hidle _ rfl).trans hexec
  obtain ⟨hend, hbefore⟩ := (hsilent.startsTransaction hstarts).run rfl
  refine ⟨by rwa [run_succ hstep], fun j hj hjk => ?_⟩
  obtain ⟨i, rfl⟩ := Nat.exists_eq_add_of_le' hj
  rw [run_succ hstep]
  exact hbefore i hjk

end Sys2Proof.Machine

/-! The scanner (R226 to R247): its start and stop, the event it presents and drops, its cycle at a tick, and the frame
it takes from the queue. -/

namespace Sys2Proof.Machine

/-! ## The scanner's states -/

@[simp] theorem State.evValid_eq_true_iff {s : State} : s.evValid = true ↔ s.sc.scs = .dispatch := by
  simp [State.evValid]

@[simp] theorem State.evValid_eq_false_iff {s : State} : s.evValid = false ↔ s.sc.scs ≠ .dispatch := by
  simp [State.evValid]

@[simp] theorem State.scanning_eq_true_iff {s : State} :
    s.scanning = true ↔ s.sc.scs = .sleep ∨ s.sc.scs = .waitBody := by
  simp [State.scanning]

/-- A scanner that is off or held classifies nothing (assumption log 7). -/
theorem State.scanning_of_off_or_dispatch {s : State} (h : s.sc.scs = .off ∨ s.sc.scs = .dispatch) :
    s.scanning = false := by
  rcases h with h | h <;> simp [State.scanning, h]

/-! ## Events in the terms of the statements -/

theorem State.scanSleep_sleeps (s : State) : s.sleeps s.scanSleep := ⟨rfl, fun _ => rfl⟩

/-- An event whose value fits EVBUF is presented as it is (R243). -/
theorem State.presentEvent_presents (s : State) (c : Byte) (g : Word) {l : List Byte} (hl : l.length ≤ 255) :
    s.presents (s.presentEvent c g l) c g l := by
  have hlen : (BitVec.ofNat 8 l.length).toNat = l.length := Nat.mod_eq_of_lt (Nat.lt_succ_of_le hl)
  exact ⟨rfl, rfl, hlen, State.bytesAt_of_storeList rfl, rfl, fun c hc => State.byteAt_memWrite s .evbuf 0 l c hc⟩

/-- An event is presented to a listener, else the scanner sleeps (R242, R243). -/
theorem State.offerEvent_presents_or_sleeps (s : State) (c : Byte) (g : Word) {l : List Byte} (hl : l.length ≤ 255) :
    if s.ctrl.listenerEn then s.presents (s.offerEvent c g l) c g l else s.sleeps (s.offerEvent c g l) := by
  unfold State.offerEvent
  split_ifs
  · exact s.presentEvent_presents c g hl
  · exact s.scanSleep_sleeps

/-- The end of an event leaves every byte outside EVBUF alone (R244, R245). -/
theorem State.eventLost_keepsOutside (s : State) : s.keepsOutside s.eventLost 0x1600 255 :=
  fun c hc => State.byteAt_forgetBuf s .evbuf c hc

theorem State.releaseEvent_dropsEvent (s : State) : s.dropsEvent s.releaseEvent :=
  ⟨rfl, s.eventLost_keepsOutside⟩

theorem State.post_postsOnly (s : State) (e : Status) : s.postsOnly (s.post e) e := ⟨rfl, fun _ => rfl⟩

/-! ## The event rows -/

/-- The four bytes of a tag that was read from four bytes are those bytes (R110). -/
theorem tagBytes_fromLe32_take {d : List Byte} (h : 4 ≤ d.length) : tagBytes (fromLe32 (d.take 4)) = d.take 4 := by
  match d, h with
  | b0 :: b1 :: b2 :: b3 :: _, _ =>
    have hnum : (fromLe32 [b0, b1, b2, b3]).toNat =
        b0.toNat + 2 ^ 8 * b1.toNat + 2 ^ 16 * b2.toNat + 2 ^ 24 * b3.toNat := toNat_four_bytes b0 b1 b2 b3
    have hbyte {n : Nat} {b : Byte} (hb : n % 256 = b.toNat) : BitVec.ofNat 8 (n % 256) = b := by
      rw [hb, BitVec.ofNat_toNat, BitVec.setWidth_eq]
    change tagBytes (fromLe32 [b0, b1, b2, b3]) = [b0, b1, b2, b3]
    generalize fromLe32 [b0, b1, b2, b3] = g at hnum
    calc tagBytes g
      _ = [BitVec.ofNat 8 (g.toNat / 256 ^ 0 % 256), BitVec.ofNat 8 (g.toNat / 256 ^ 1 % 256),
          BitVec.ofNat 8 (g.toNat / 256 ^ 2 % 256), BitVec.ofNat 8 (g.toNat / 256 ^ 3 % 256)] := rfl
      _ = [b0, b1, b2, b3] := by
        rw [hbyte (b := b0) (by omega), hbyte (b := b1) (by omega), hbyte (b := b2) (by omega),
          hbyte (b := b3) (by omega)]

theorem exec_evtWriteReply_of_scanning {s : State} (h : s.scanning = true) (a : Address) (c : Byte) (d : List Byte) :
    exec (.evtWriteReply a c d) s = .next (s.offerEvent c 0 d) :=
  if_pos h

theorem exec_evtTagged_of_scanning {s : State} (h : s.scanning = true) (a : Address) (c : Byte) (d : List Byte) :
    exec (.evtTagged a c d) s = .next (s.taggedEvent c d) :=
  if_pos h

/-- At a scanner that is sleeping or waiting, the row of a frame is its classification (R240). -/
theorem exec_eventOf {s : State} (h : s.scanning = true) (a : Address) (c : Byte) (d : List Byte) :
    exec (eventOf a c d) s = .next (s.classify c d) := by
  unfold eventOf State.classify
  split_ifs
  · exact exec_evtWriteReply_of_scanning h a c d
  · exact exec_evtTagged_of_scanning h a c d

/-- Settles O43: both rows test that the scanner is scanning. -/
theorem eventRowsNeedAScanningScanner : Obligations.EventRowsNeedAScanningScanner := by
  intro a c d s hs
  have hscan : ¬ s.scanning = true := by simp [State.scanning_of_off_or_dispatch hs]
  exact ⟨if_neg hscan, if_neg hscan⟩

/-- Settles O41: the payload is offered with tag 0. -/
theorem evtWriteReplyIsOffered : Obligations.EvtWriteReplyIsOffered := fun a c d s hd hs =>
  ⟨_, exec_evtWriteReply_of_scanning (State.scanning_eq_true_iff.2 hs) a c d, s.offerEvent_presents_or_sleeps c 0 hd⟩

/-- Settles O42, along the length test of R239; the tag offered is the one its four bytes give. -/
theorem evtTaggedIsOffered : Obligations.EvtTaggedIsOffered := by
  intro a c d s hd hs
  refine ⟨_, exec_evtTagged_of_scanning (State.scanning_eq_true_iff.2 hs) a c d, ?_⟩
  unfold State.taggedEvent
  by_cases hshort : d.length < 4
  · rw [if_pos hshort, if_pos hshort]
    exact s.setFrameErr.scanSleep_sleeps
  · have hvalue : (d.drop 4).length ≤ 255 := by
      rw [List.length_drop]
      omega
    have hoffer := s.offerEvent_presents_or_sleeps c (fromLe32 (d.take 4)) hvalue
    rw [if_neg hshort, if_neg hshort]
    split_ifs at hoffer ⊢
    · exact ⟨_, tagBytes_fromLe32_take (Nat.le_of_not_lt hshort), hoffer⟩
    · exact hoffer

/-! ## Writes to `CTRL` -/

/-- A write to `CTRL` takes bit 0 and bit 1 of the word (R25). -/
theorem runMove_regWrite_ctrl (v : Word) (s : State) :
    runMove (.regWrite 0x00 v) s = .next
      ((s.setScanEn (decide (v.toNat % 2 = 1))).setListener (decide (v.toNat / 2 % 2 = 1))) := by
  have hscan : v.getLsbD 0 = decide (v.toNat % 2 = 1) := Nat.testBit_zero _
  have hlisten : v.getLsbD 1 = decide (v.toNat / 2 % 2 = 1) := by
    rw [BitVec.getLsbD, Nat.testBit_succ, Nat.testBit_zero]
  rw [← hscan, ← hlisten]
  rfl

/-- `LISTENER_EN` is stored, when that does not take the listener of a presented event away (R25). -/
theorem State.setListener_of_kept {s : State} {en : Bool} (h : en = true ∨ s.sc.scs ≠ .dispatch) :
    s.setListener en = { s with ctrl := ⟨s.ctrl.scanEn, en⟩ } := by
  have hkept : ¬ (!en && s.evValid) = true := by
    rcases h with rfl | h
    · simp
    · simp [State.evValid_eq_false_iff.2 h]
  exact if_neg hkept

/-- Clearing `LISTENER_EN` under a presented event releases it (R244). -/
theorem State.setListener_of_dropped {s : State} (h : s.sc.scs = .dispatch) :
    s.setListener false = State.releaseEvent { s with ctrl := ⟨s.ctrl.scanEn, false⟩ } :=
  if_pos (State.evValid_eq_true_iff.2 h)

/-- `SCAN_EN` written as it is changes nothing (R226). -/
theorem State.setScanEn_same (s : State) : s.setScanEn s.ctrl.scanEn = s := by
  unfold State.setScanEn
  cases s.ctrl.scanEn <;> rfl

theorem State.setScanEn_start {s : State} (hoff : s.ctrl.scanEn = false) (hidle : s.tx.txs = .idle) :
    s.setScanEn true = s.scanStart := by
  simp [State.setScanEn, hoff, State.busy_eq_false_iff.2 hidle]

theorem State.setScanEn_refused {s : State} (hoff : s.ctrl.scanEn = false) (hwait : s.tx.txs = .wait) :
    s.setScanEn true = s.setCmdRej := by
  simp [State.setScanEn, hoff, State.busy_eq_true_iff.2 hwait]

theorem State.setScanEn_stop {s : State} (hon : s.ctrl.scanEn = true) : s.setScanEn false = s.scanStop := by
  simp [State.setScanEn, hon]

/-- The stop of a scanner that presents no event (R245). -/
theorem State.scanStop_of_not_dispatch {s : State} (h : s.sc.scs ≠ .dispatch) :
    s.scanStop = { s with ctrl := { s.ctrl with scanEn := false }, sc := { s.sc with scs := .off } } := by
  simp [State.scanStop, State.evValid_eq_false_iff.2 h]

/-- The stop of a scanner drops a presented event (R245). -/
theorem State.scanStop_of_dispatch {s : State} (h : s.sc.scs = .dispatch) :
    s.scanStop =
      { s.eventLost with ctrl := { s.ctrl with scanEn := false }, sc := { s.sc with scs := .off } } := by
  simp [State.scanStop, State.evValid_eq_true_iff.2 h]

theorem State.scanStop_scs (s : State) : s.scanStop.sc.scs = .off := rfl

/-- Settles O49, clause by clause: only a stop can meet a presented event, and it drops it. -/
theorem scanEnableWrites : Obligations.ScanEnableWrites := by
  intro s v scan listen
  have hwrite : runMove (.regWrite 0x00 v) s = .next ((s.setScanEn scan).setListener listen) :=
    runMove_regWrite_ctrl v s
  clear_value scan listen
  rw [hwrite]
  refine ⟨?start, ?refused, ?same, ?stop⟩
  case start =>
    rintro rfl hoff hidle
    rw [State.setScanEn_start hoff hidle, State.setListener_of_kept (.inr (by simp [State.scanStart]))]
    exact ⟨_, rfl, rfl, fun _ => rfl⟩
  case refused =>
    rintro rfl hoff hwait hscs
    rw [State.setScanEn_refused hoff hwait, State.setListener_of_kept (.inr (by simp [hscs]))]
    simp [State.setCmdRej, hoff]
  case same =>
    rintro rfl hkept
    rw [s.setScanEn_same, State.setListener_of_kept hkept]
  case stop =>
    rintro rfl hon
    rw [State.setScanEn_stop hon, State.setListener_of_kept (.inr (by simp [s.scanStop_scs]))]
    by_cases hev : s.sc.scs = .dispatch
    · rw [State.scanStop_of_dispatch hev]
      exact ⟨_, rfl, rfl, s.eventLost_keepsOutside, fun hno => absurd hev hno⟩
    · rw [State.scanStop_of_not_dispatch hev]
      exact ⟨_, rfl, rfl, fun _ _ => rfl, fun _ => ⟨rfl, fun _ => rfl⟩⟩

/-! ## `EV_ACK` -/

theorem exec_evAck_of_dispatch {s : State} (h : s.sc.scs = .dispatch) :
    exec .evAck s = .next (s.releaseEvent.post .ok) :=
  if_pos (State.evValid_eq_true_iff.2 h)

theorem exec_evAck_of_not_dispatch {s : State} (h : s.sc.scs ≠ .dispatch) :
    exec .evAck s = .next (s.post .illegalCommand) := by
  have hev : ¬ s.evValid = true := by simp [h]
  exact if_neg hev

/-- Settles O40: the command and the `CTRL` write release the event by one operation. -/
theorem evAckReleasesEvent : Obligations.EvAckReleasesEvent := by
  refine ⟨fun v hv => decodeCommand_congr (w := 0x30) hv, fun s hs => ?_, fun s hs => ?_, fun s v hs hon hv => ?_⟩
  · exact ⟨_, exec_evAck_of_dispatch hs, _, s.releaseEvent_dropsEvent, State.post_postsOnly _ _⟩
  · exact ⟨_, exec_evAck_of_not_dispatch hs, s.post_postsOnly _⟩
  · have hscan : decide (v.toNat % 2 = 1) = s.ctrl.scanEn := by
      rw [hon, decide_eq_true_eq]
      omega
    have hlisten : decide (v.toNat / 2 % 2 = 1) = false := by
      rw [decide_eq_false_iff_not]
      omega
    refine ⟨_, runMove_regWrite_ctrl v s, ?_⟩
    rw [hscan, hlisten, s.setScanEn_same, State.setListener_of_dropped hs, hon]
    exact State.releaseEvent_dropsEvent _

/-! ## The scanner's tick -/

/-- With no transaction in flight a tick is the scanner's (R227, R300). -/
theorem tick_of_idle {s : State} (h : s.tx.txs = .idle) : tick s = outcome s.scanTick := by
  have htx : s.txTick = .ok s := by simp [State.txTick, h]
  simp only [tick, htx]

/-- A tick that does not end the scanner's wait counts down (R227, R238). -/
theorem State.scanTick_of_counting {s : State} (hs : s.sc.scs = .sleep ∨ s.sc.scs = .waitBody)
    (hcnt : s.sc.cnt - 1 ≠ 0) : s.scanTick = .ok { s with sc := { s.sc with cnt := s.sc.cnt - 1 } } := by
  rcases hs with hs | hs <;> simp only [State.scanTick, hs, if_neg hcnt]

/-- The tick that ends a sleep runs the cycle (R227). -/
theorem State.scanDue.tick_sleep {s t : State} (h : s.scanDue .sleep)
    (ht : State.scanCycle { s with sc := { s.sc with cnt := 0 } } = .ok t) : tick s = .next t := by
  obtain ⟨hidle, hscs, hcnt⟩ := h
  have hscan : s.scanTick = .ok t := by
    rw [← ht]
    simp [State.scanTick, hscs, hcnt]
  rw [tick_of_idle hidle, hscan, outcome]

/-- The tick that ends a body wait runs the body test (R238). -/
theorem State.scanDue.tick_waitBody {s t : State} (h : s.scanDue .waitBody)
    (ht : State.bodyCheck { s with sc := { s.sc with cnt := 0 } } = .ok t) : tick s = .next t := by
  obtain ⟨hidle, hscs, hcnt⟩ := h
  have hscan : s.scanTick = .ok t := by
    rw [← ht]
    simp [State.scanTick, hscs, hcnt]
  rw [tick_of_idle hidle, hscan, outcome]

/-- The body test with the body not there whole (R234). -/
theorem State.bodyCheck_of_short {s : State} (h : s.rxq.length < s.sc.len.toNat + 2) :
    s.bodyCheck = .ok { s with sc := { s.sc with scs := .waitBody, cnt := 10 } } := by
  rcases s.bodyCheck_cases with ⟨hlen, -⟩ | ⟨-, hwait⟩
  · exact absurd hlen (Nat.not_le_of_lt h)
  · exact hwait

/-- The body test with the body there whole: the frame is taken, summed and classified (R234 to R237). -/
theorem State.bodyCheck_of_body {s : State} {w q : List Byte} {cs e : Byte} (hw : w.length = s.sc.len.toNat)
    (hq : s.rxq = w ++ cs :: e :: q) :
    s.bodyCheck = .ok (State.classify
      { s with
        rxq := q
        flags := { s.flags with
          csWarn := s.flags.csWarn || decide (byteSum
            ([0x68] ++ s.sc.addr.bytes ++ [0x68, s.sc.ctrl, s.sc.len] ++ w) % 256 ≠ cs.toNat) } }
      s.sc.ctrl (w.map sub33)) := by
  have hlen : s.sc.len.toNat + 2 ≤ s.rxq.length := by simp [hq, hw]
  rcases s.bodyCheck_cases with ⟨-, hbody⟩ | ⟨hshort, -⟩
  · have hdrop : (w ++ cs :: e :: q).drop (w.length + 2) = q := by
      rw [← List.drop_drop, List.drop_left]
      rfl
    rw [hbody, s.scanBody_eq hlen, hq, ← hw]
    simp only [ne_eq, ← BitVec.toNat_inj, toNat_checksum8]
    simp [hdrop, Config.startByte]
  · exact absurd hlen (Nat.not_le_of_lt hshort)

/-- The scanner's cycle as the tests of R229 to R233 in their order. -/
theorem State.scanCycle_eq (s : State) :
    s.scanCycle =
      if s.rxq.length < 10 then .ok s.scanSleep
      else if s.rxq.getD 0 0 ≠ 0x68 then .ok (State.scanSleep { s with rxq := s.rxq.drop 1 })
      else if s.rxq.getD 7 0 ≠ 0x68 then .ok (State.scanSleep (State.setFrameErr { s with rxq := s.rxq.drop 8 }))
      else State.bodyCheck
        { s with
          rxq := s.rxq.drop 10
          sc := { s.sc with
            addr := Address.ofBytes (s.rxq.drop 1)
            ctrl := s.rxq.getD 8 0
            len := s.rxq.getD 9 0 } } := by
  rcases s.scanCycle_cases with ⟨hlen, h⟩ | ⟨hlen, h0, h⟩ | ⟨hlen, h0, h7, h⟩ | ⟨hlen, h0, h7, h⟩
  · rw [if_pos hlen, h]
  · rw [if_neg (Nat.not_lt.2 hlen), if_pos h0, h]
  · rw [if_neg (Nat.not_lt.2 hlen), if_neg (not_not.2 h0), if_pos h7, h]
  · rw [if_neg (Nat.not_lt.2 hlen), if_neg (not_not.2 h0), if_neg (not_not.2 h7), h]

/-- The cycle on a whole header latches it and tests for the body (R231 to R234). -/
theorem State.scanCycle_of_header {s : State} {a : Address} {c l : Byte} {q : List Byte}
    (h : s.rxq = Config.startByte :: a.bytes ++ [Config.startByte, c, l] ++ q) :
    s.scanCycle = State.bodyCheck { s with rxq := q, sc := { s.sc with addr := a, ctrl := c, len := l } } := by
  simp [s.scanCycle_eq, h, Address.bytes, Address.ofBytes, Config.startByte]

/-- Settles O44: a count, a failing body test, and the tests of the cycle one by one. -/
theorem scannerCycle : Obligations.ScannerCycle := by
  refine ⟨fun s hidle hscs hcnt => ?_, fun s hdue hshort => ?_, fun s hdue => ?_⟩
  · have hminus : (s.sc.cnt - 1).toNat + 1 = s.sc.cnt.toNat := by bv_omega
    have hne : s.sc.cnt - 1 ≠ 0 := by bv_omega
    refine ⟨{ s with sc := { s.sc with cnt := s.sc.cnt - 1 } }, ?_, hminus, rfl, fun _ => rfl⟩
    rw [tick_of_idle hidle, State.scanTick_of_counting hscs hne]
    rfl
  · have ⟨_, hscs, _⟩ := hdue
    refine ⟨_, hdue.tick_waitBody (State.bodyCheck_of_short hshort), ?_, fun _ => rfl⟩
    simp only [hscs]
  · obtain ⟨t, ht⟩ := State.scanCycle_ok { s with sc := { s.sc with cnt := 0 } }
    refine ⟨t, hdue.tick_sleep ht, ?_⟩
    rw [State.scanCycle_eq] at ht
    refine ⟨fun hlen => ?_, fun hlen h0 => ?_, fun hlen h0 h7 => ?_, fun hlen h0 h7 hbody => ?_⟩
    · rw [if_pos hlen] at ht
      obtain rfl := Except.ok.inj ht
      exact ⟨rfl, fun _ => rfl⟩
    · rw [if_neg (Nat.not_lt.2 hlen), if_pos h0] at ht
      obtain rfl := Except.ok.inj ht
      exact ⟨rfl, fun _ => rfl⟩
    · rw [if_neg (Nat.not_lt.2 hlen), if_neg (not_not.2 h0), if_pos h7] at ht
      obtain rfl := Except.ok.inj ht
      exact ⟨rfl, fun _ => rfl⟩
    · have hshort : (s.rxq.drop 10).length < (s.rxq.getD 9 0).toNat + 2 := by
        rw [List.length_drop]
        omega
      rw [if_neg (Nat.not_lt.2 hlen), if_neg (not_not.2 h0), if_neg (not_not.2 h7),
        State.bodyCheck_of_short hshort] at ht
      obtain rfl := Except.ok.inj ht
      exact ⟨rfl, fun _ => rfl⟩

/-- Settles O45: either way ends in the body test, which classifies; the row of the frame does the same. -/
theorem scannerRunsEventRow : Obligations.ScannerRunsEventRow := by
  refine ⟨fun s f e q hdue hlead hlen htail hq => ?_, fun s w cs e q hdue hw hq => ?_⟩
  · have ⟨_, hscs, _⟩ := hdue
    have hheader : s.rxq = Config.startByte :: f.addr.bytes ++ [Config.startByte, f.ctrl, f.len] ++
        (f.wire ++ f.checksum :: e :: q) := by
      rw [hq, WireFrame.bytes, WireFrame.covered, hlead, htail, List.nil_append, List.append_assoc]
    have hw : f.wire.length = f.len.toNat := (WireFrame.toNat_len hlen).symm
    have hcycle := State.scanCycle_of_header (s := { s with sc := { s.sc with cnt := 0 } }) hheader
    rw [hdue.tick_sleep (hcycle.trans (State.bodyCheck_of_body hw rfl)), exec_eventOf rfl]
    simp only [hscs]
    rfl
  · have ⟨_, hscs, _⟩ := hdue
    rw [hdue.tick_waitBody (State.bodyCheck_of_body hw hq), exec_eventOf (by simp [hscs])]

/-! ## The checksum is advisory -/

/-- The state with `CS_WARN` set to a value (R27). -/
def State.putCsWarn (s : State) (b : Bool) : State := { s with flags := { s.flags with csWarn := b } }

theorem State.offerEvent_putCsWarn (s : State) (b : Bool) (c : Byte) (g : Word) (l : List Byte) :
    (s.putCsWarn b).offerEvent c g l = (s.offerEvent c g l).putCsWarn b := by
  unfold State.offerEvent
  rw [apply_ite (State.putCsWarn · b)]
  rfl

/-- The classification of a frame neither reads nor writes `CS_WARN` (R236, R240). -/
theorem State.classify_putCsWarn (s : State) (b : Bool) (c : Byte) (d : List Byte) :
    (s.putCsWarn b).classify c d = (s.classify c d).putCsWarn b := by
  unfold State.classify State.taggedEvent
  split_ifs
  · exact s.offerEvent_putCsWarn _ _ _ _
  · rfl
  · exact s.offerEvent_putCsWarn _ _ _ _

/-- What the checksum byte of the awaited body is compared with: the sum over the header and the body `w` (R236). -/
def State.bodySum (s : State) (w : List Byte) : Nat :=
  byteSum ([0x68] ++ s.sc.addr.bytes ++ [0x68, s.sc.ctrl, s.sc.len] ++ w) % 256

/-- The checksum byte `k` of a body decides about `CS_WARN`, the other bytes about the rest (R235, R236). -/
theorem State.scanDue.tick_body {s : State} (hdue : s.scanDue .waitBody) {w : List Byte}
    (hw : w.length = s.sc.len.toNat) (k e : Byte) (q : List Byte) :
    tick { s with rxq := w ++ k :: e :: q } = .next (State.putCsWarn
      (State.classify { s with rxq := q, sc := { s.sc with cnt := 0 } } s.sc.ctrl (w.map sub33))
      (s.flags.csWarn || decide (s.bodySum w ≠ k.toNat))) := by
  have ⟨_, hscs, _⟩ := hdue
  have hrow := scannerRunsEventRow.2 { s with rxq := w ++ k :: e :: q } w k e q hdue hw rfl
  rw [hrow, exec_eventOf (by simp [hscs]), ← State.classify_putCsWarn]
  rfl

/-- Settles O46: the two ticks classify one frame in states that differ in `CS_WARN`, and a sum differs from one of two
different bytes. -/
theorem scannerChecksumIsAdvisory : Obligations.ScannerChecksumIsAdvisory := by
  intro s w cs cs' e q hdue hw
  refine ⟨_, _, hdue.tick_body hw cs e q, hdue.tick_body hw cs' e q, rfl, fun hne => ?_⟩
  have hne' : cs.toNat ≠ cs'.toNat := fun h => hne (BitVec.eq_of_toNat_eq h)
  simp only [State.putCsWarn, Bool.or_eq_true, decide_eq_true_eq]
  omega

/-! ## A body that does not come -/

/-- The scanner waits for a body that is not there whole, its counter in range (R36, R234). -/
structure State.AwaitsBody (s : State) : Prop where
  wait : s.sc.scs = .waitBody
  idle : s.tx.txs = .idle
  countPos : 1 ≤ s.sc.cnt.toNat
  countLe : s.sc.cnt.toNat ≤ 10
  short : s.rxq.length < s.sc.len.toNat + 2

theorem State.AwaitsBody.takeMove {s : State} (h : s.AwaitsBody) (rest : List Move) :
    (s.takeMove rest).AwaitsBody := { h with }

/-- A tick leaves the scanner waiting and changes its counter alone (R234, R238). -/
theorem State.AwaitsBody.tick {s : State} (h : s.AwaitsBody) :
    ∃ k : BitVec 4, tick s = .next { s with sc := { s.sc with cnt := k } } ∧
      State.AwaitsBody { s with sc := { s.sc with cnt := k } } := by
  obtain ⟨hcounts, htest, -⟩ := scannerCycle
  by_cases hone : s.sc.cnt.toNat = 1
  · have hdue : s.scanDue .waitBody := ⟨h.idle, h.wait, BitVec.eq_of_toNat_eq hone⟩
    obtain ⟨t, ht, rfl, -⟩ := htest s hdue h.short
    exact ⟨10, ht, { h with countPos := (by decide : 1 ≤ (10#4).toNat), countLe := (by decide : (10#4).toNat ≤ 10) }⟩
  · have hpos := h.countPos
    have hle := h.countLe
    obtain ⟨t, ht, hminus, hkeep, -⟩ := hcounts s h.idle (.inr h.wait) (by omega)
    rw [hkeep] at ht
    exact ⟨t.sc.cnt, ht, { h with countPos := by dsimp only; omega, countLe := by dsimp only; omega }⟩

/-- Settles O47, by induction on the number of ticks: each leaves a state that still waits. -/
theorem scannerMayWaitForever : Obligations.ScannerMayWaitForever := by
  intro n s rest hwait hidle hpos hle hshort hmoves
  have h : s.AwaitsBody := ⟨hwait, hidle, hpos, hle, hshort⟩
  clear hwait hidle hpos hle hshort
  induction n generalizing s with
  | zero =>
    obtain rfl : s.moves = rest := hmoves
    exact ⟨s, rfl, h.wait, h.countPos, h.countLe, rfl⟩
  | succ n ih =>
    obtain ⟨k, htick, hnext⟩ := (h.takeMove (List.replicate n .tick ++ rest)).tick
    obtain ⟨t, hrun, hscs, htpos, htle, hkeep⟩ := ih _ rfl hnext
    refine ⟨t, ?_, hscs, htpos, htle, ?_⟩
    · rw [run_succ ((step_of_moves hmoves).trans htick), hrun]
    · rw [hkeep]
      simp [Nat.add_assoc, Nat.add_comm 1 n]

end Sys2Proof.Machine

/-! The BCD mantissa (R263, R265, R267) and `BCD_DECODE` (R260 to R262, R264, R266). -/

namespace Sys2Proof.Machine

/-! ## The mantissa -/

/-- The nibbles of a byte are its remainder and its quotient by 16 (R263). -/
theorem bcdDigits_eq (b : Byte) : bcdDigits b = b.toNat % 16 + 10 * (b.toNat / 16) := by
  have hlow : (b &&& 0x0F).toNat = b.toNat % 16 := Nat.and_two_pow_sub_one_eq_mod b.toNat 4
  have hhigh : (b >>> 4).toNat = b.toNat / 16 := Nat.shiftRight_eq_div_pow b.toNat 4
  rw [bcdDigits, hlow, hhigh]

/-- In the sum of R263 the first byte weighs 1, and every later one 100 times what it weighs in the rest. -/
theorem bcdSum_cons (b : Byte) (l : List Byte) : bcdSum (b :: l) = bcdDigits b + 100 * bcdSum l := by
  simp only [bcdSum, List.length_cons, List.range_succ_eq_map, List.map_cons, List.map_map, List.sum_cons,
    ← List.sum_map_mul_left, List.getD_cons_zero, Nat.pow_zero, Nat.mul_one, bcdDigits_eq]
  congr 3
  funext i
  simp only [Function.comp, List.getD_cons_succ, Nat.pow_succ]
  ring

theorem bcdMant_eq_bcdSum (l : List Byte) : bcdMant l = bcdSum l := by
  induction l with
  | nil => rfl
  | cons b l ih => rw [bcdMant, bcdSum_cons, ih]

/-! ## Its bounds -/

/-- Two nibbles give at most `15 + 10 * 15` (R265). -/
theorem bcdDigits_le (b : Byte) : bcdDigits b ≤ 165 := by
  rw [bcdDigits_eq]
  omega

theorem bcdDigits_le_of_digits {b : Byte} (h : b.toNat % 16 ≤ 9 ∧ b.toNat / 16 ≤ 9) : bcdDigits b ≤ 99 := by
  rw [bcdDigits_eq]
  omega

/-- With every byte giving at most `k`, the sum is at most the geometric sum `k * (100^n - 1) / 99`. -/
theorem bcdSum_geometric {k : Nat} {l : List Byte} (h : ∀ b ∈ l, bcdDigits b ≤ k) :
    99 * bcdSum l + k ≤ k * 100 ^ l.length := by
  induction l with
  | nil => simp [bcdSum]
  | cons b l ih =>
    have hb : bcdDigits b ≤ k := h b List.mem_cons_self
    have hl : 99 * bcdSum l + k ≤ k * 100 ^ l.length := ih fun c hc => h c (List.mem_cons_of_mem b hc)
    calc 99 * bcdSum (b :: l) + k
        = 99 * bcdDigits b + 100 * (99 * bcdSum l) + k := by rw [bcdSum_cons]; ring
      _ ≤ 100 * (99 * bcdSum l + k) := by omega
      _ ≤ 100 * (k * 100 ^ l.length) := Nat.mul_le_mul_left 100 hl
      _ = k * 100 ^ (b :: l).length := by rw [List.length_cons, Nat.pow_succ]; ring

/-- The bound for at most `n` bytes of any value (R267). -/
theorem bcdSum_le_of_length {l : List Byte} {n : Nat} (h : l.length ≤ n) : 99 * bcdSum l + 165 ≤ 165 * 100 ^ n :=
  (bcdSum_geometric fun b _ => bcdDigits_le b).trans
    (Nat.mul_le_mul_left 165 (Nat.pow_le_pow_right (by decide) h))

/-- Settles O28: the bounds are the geometric sum for 165 per byte, and for 99 per byte of two digits. -/
theorem bcdMantissaSumAndBounds : Obligations.BcdMantissaSumAndBounds := by
  refine ⟨bcdMant_eq_bcdSum, fun l hl => ?_, fun l hl => ?_, fun l hdigits => ?_⟩
  · have hbound := bcdSum_le_of_length hl
    omega
  · have hbound := bcdSum_le_of_length hl
    omega
  · have hbound := bcdSum_geometric fun b hb => bcdDigits_le_of_digits (hdigits b hb)
    have hbase : 10 ^ (2 * l.length) = 100 ^ l.length := Nat.pow_mul 10 2 l.length
    omega

/-! ## The command -/

theorem exec_bcdDecode_of_error {s : State} {e : Status} (h : s.selectedRange = .error e) :
    exec .bcdDecode s = .next (s.post e) := by
  simp only [exec, execBcdDecode, h]

/-- More than eight selected bytes are refused after the range test (R266). -/
theorem exec_bcdDecode_of_long {s : State} {l : List Byte} (h : s.selectedRange = .ok l)
    (hlen : 8 < s.op.rangeLen.toNat) : exec .bcdDecode s = .next (s.post .invalidArgument) := by
  simp only [exec, execBcdDecode, h]
  exact if_pos hlen

theorem exec_bcdDecode_of_ok {s : State} {l : List Byte} (h : s.selectedRange = .ok l)
    (hlen : ¬ 8 < s.op.rangeLen.toNat) :
    exec .bcdDecode s = .next (State.post
      { s with res := { s.res with mant := BitVec.ofNat 64 (bcdMant l), dp := s.op.dp } } .ok) := by
  simp only [exec, execBcdDecode, h]
  exact if_neg hlen

/-- At most eight selected bytes give a mantissa that the 64-bit pair holds exactly (R264, R267). -/
theorem State.toNat_bcdMant_rangeBytes {s : State} (hlen : ¬ 8 < s.op.rangeLen.toNat) :
    (BitVec.ofNat 64 (bcdMant s.rangeBytes)).toNat = bcdSum s.rangeBytes := by
  have hrange : s.rangeBytes.length ≤ 8 := (s.length_bytesAt _ _).trans_le (Nat.not_lt.1 hlen)
  have hbound := bcdSum_le_of_length hrange
  rw [bcdMant_eq_bcdSum, BitVec.toNat_ofNat, Nat.mod_eq_of_lt (by omega)]

/-- Settles O29, along the outcomes of the selected range and the length test; the value is exact because the mantissa
fits its 64 bits. -/
theorem bcdDecodeResult : Obligations.BcdDecodeResult := by
  refine ⟨fun v hv => decodeCommand_congr (w := 0x18) hv, fun s => ?_⟩
  have hrange := s.selectedRange_eq
  split_ifs at hrange ⊢ with hsel hout hlen
  · exact ⟨_, exec_bcdDecode_of_error hrange, rfl, fun _ => rfl, rfl, rfl, rfl⟩
  · exact ⟨_, exec_bcdDecode_of_error hrange, rfl, fun _ => rfl, rfl, rfl, rfl⟩
  · exact ⟨_, exec_bcdDecode_of_long hrange hlen, rfl, fun _ => rfl, rfl, rfl, rfl⟩
  · have hmant := State.toNat_bcdMant_rangeBytes hlen
    refine ⟨_, exec_bcdDecode_of_ok hrange hlen, rfl, fun _ => rfl, rfl, rfl, ?_⟩
    rw [← hmant]
    exact ⟨toNat_mantLo _, toNat_mantHi _, rfl⟩

end Sys2Proof.Machine

/-! The completions that fail (R291, R293): a transaction or a decode that did not end with OK shows no measurement; and
the tick that finds neither machine at work (R300). -/

namespace Sys2Proof.Machine

/-! ## Failed completions -/

/-- A status other than OK comes with `RES_LEN` 0: nothing in VBUF is a measurement (R293). -/
def State.failureShowsNothing (t : State) : Prop := t.res.status ≠ .ok → t.res.len = 0

/-- An error loses the result; a decoded reply posts OK (R188, R291). -/
theorem State.complete_failureShowsNothing (s : State) (r : Except Status Decoded) :
    (s.complete r).failureShowsNothing := by
  intro hfail
  cases r with
  | error e => rfl
  | ok d => exact absurd (s.complete_status (.ok d)) hfail

theorem State.finish_failureShowsNothing (s : State) (r : Except Status Decoded) :
    (s.finish r).failureShowsNothing :=
  State.complete_failureShowsNothing _ r

/-- A poll ends the transaction, or waits on and posts nothing (R200, R205, R206). -/
theorem State.poll_finishes_or_waits {s t : State} (h : s.poll = .ok t) :
    (∃ u r, t = State.finish u r) ∨ t.tx.txs = .wait ∧ t.flags = s.flags := by
  rcases s.poll_cases with ⟨-, e⟩ | ⟨-, -, -, e⟩ | ⟨-, -, -, e⟩ | ⟨-, -, e⟩
  · rw [e, State.finishRead_eq] at h
    exact .inl ⟨_, _, (Except.ok.inj h).symm⟩
  · rw [e, State.finishRead_eq] at h
    exact .inl ⟨_, _, (Except.ok.inj h).symm⟩
  · exact .inl ⟨_, _, (Except.ok.inj (e.symm.trans h)).symm⟩
  · obtain rfl := Except.ok.inj (e.symm.trans h)
    exact .inr ⟨rfl, rfl⟩

/-- The engine's tick that leaves `T_WAIT` has ended the transaction (R201, R205). -/
theorem State.txTick_failureShowsNothing {s t : State} (hwait : s.tx.txs = .wait) (h : s.txTick = .ok t)
    (hidle : t.tx.txs = .idle) : t.failureShowsNothing := by
  by_cases hcnt : s.tx.cnt = 1
  · rw [State.txTick_of_due hwait hcnt] at h
    rcases State.poll_finishes_or_waits h with ⟨u, r, rfl⟩ | ⟨hstill, -⟩
    · exact u.finish_failureShowsNothing r
    · cases hidle.symm.trans hstill
  · rw [State.txTick_of_not_due hwait hcnt] at h
    obtain rfl := Except.ok.inj h
    cases hidle.symm.trans hwait

/-- A start step that sets `RSP_VALID` has ended its transaction at the first poll (R199, R206). -/
theorem failureShowsNothing_of_startTx {i : Instr} {s t : State} {o : TxOp} {func : Byte} {tag : Word} {f : List Byte}
    (hexec : exec i s = outcome (s.startTx o func tag f)) (hbefore : s.flags.rspValid = false)
    (hafter : t.flags.rspValid = true) (h : exec i s = .next t) : t.failureShowsNothing := by
  obtain ⟨w, hw⟩ := s.startTx_ok o func tag f
  rw [hexec, hw] at h
  obtain rfl := Host.Outcome.next.inj h
  rw [State.startTx_eq] at hw
  rcases State.poll_finishes_or_waits hw with ⟨u, r, rfl⟩ | ⟨-, hflags⟩
  · exact u.finish_failureShowsNothing r
  · have hkept : w.flags.rspValid = false := (congrArg StatusFlags.rspValid hflags).trans hbefore
    cases hkept.symm.trans hafter

/-- `TX_WRITE_DATA` that completes at once: its request was refused, or its first poll ended it (R206, R210). -/
theorem failureShowsNothing_of_txWriteData {s t : State} (hoff : s.sc.scs = .off)
    (hbefore : s.flags.rspValid = false) (hafter : t.flags.rspValid = true) (h : exec .txWriteData s = .next t) :
    t.failureShowsNothing := by
  cases hreq : s.writeRequest s.addr 0x14 with
  | none =>
    obtain rfl := Host.Outcome.next.inj ((exec_txWriteData_of_none hoff hreq).symm.trans h)
    exact fun _ => rfl
  | some f => exact failureShowsNothing_of_startTx (exec_txWriteData_of_some hoff hreq) hbefore hafter h

/-- `BCD_DECODE` that does not answer OK has posted its error and nothing else (R260, R261, R266). -/
theorem exec_bcdDecode_failed {s t : State} (h : exec .bcdDecode s = .next t) (hfail : t.res.status ≠ .ok) :
    t = s.post t.res.status := by
  cases hrange : s.selectedRange with
  | error e =>
    obtain rfl := Host.Outcome.next.inj ((exec_bcdDecode_of_error hrange).symm.trans h)
    rfl
  | ok l =>
    by_cases hlen : 8 < s.op.rangeLen.toNat
    · obtain rfl := Host.Outcome.next.inj ((exec_bcdDecode_of_long hrange hlen).symm.trans h)
      rfl
    · obtain rfl := Host.Outcome.next.inj ((exec_bcdDecode_of_ok hrange hlen).symm.trans h)
      exact absurd rfl hfail

/-- Settles O21: a decode and a transaction both end in one completion, whose error case loses the result; a failed
`BCD_DECODE` only posts. -/
theorem noErrorBecomesAMeasurement : Obligations.NoErrorBecomesAMeasurement := by
  refine ⟨fun s t h => ?_, fun s t hwait _ h hidle => ?_, fun s t hoff hbefore hafter h => ?_,
    fun s t h hfail => ?_⟩
  · obtain rfl := Host.Outcome.next.inj h
    exact s.complete_failureShowsNothing _
  · obtain ⟨u, hengine, hscan⟩ := tick_cases h
    obtain ⟨hkeep, -⟩ := State.scanTick_scannerOnly hscan
    have htx : t.tx = u.tx := by rw [hkeep]
    have hres : t.res = u.res := by rw [hkeep]
    rw [hres]
    exact State.txTick_failureShowsNothing hwait hengine (htx ▸ hidle)
  · rcases h with h | h | h
    · exact failureShowsNothing_of_startTx (exec_txReadAddress_of_off hoff) hbefore hafter h
    · exact failureShowsNothing_of_startTx (exec_txReadData_of_off hoff) hbefore hafter h
    · exact failureShowsNothing_of_txWriteData hoff hbefore hafter h
  · rw [exec_bcdDecode_failed h hfail]
    exact ⟨rfl, rfl⟩

/-! ## The tick with nothing to do -/

/-- A scanner that is off or held by an event does not react to a tick (R227, R243). -/
theorem State.scanTick_of_off_or_dispatch {s : State} (h : s.sc.scs = .off ∨ s.sc.scs = .dispatch) :
    s.scanTick = .ok s := by
  rcases h with h | h <;> simp only [State.scanTick, h]

/-- Settles O57: neither machine reacts. -/
theorem idleTickChangesNothing : Obligations.IdleTickChangesNothing := by
  intro s hidle hscanner
  rw [tick_of_idle hidle, State.scanTick_of_off_or_dispatch hscanner, outcome]

end Sys2Proof.Machine
